-- ==== Sys2Proof/Word.lean ====
section
/-! DEFINITION. The words of the station (bytes, addresses, channels, numbers of a few bits), timers as
deadlines, the saturating increment, and reading and writing one place of a fixed table. -/

namespace Sys2Proof

/-- A byte of the image, of a payload or of a report. -/
abbrev Byte := BitVec 8
/-- A station address, 0–31 (section 0.5). -/
abbrev Addr := BitVec 5
/-- A channel, 0–255 (section 0.5). -/
abbrev Channel := BitVec 8
/-- The number of one assertion of a hold, 0–15 (section 0.5). -/
abbrev InstNo := BitVec 4
/-- A sequence number, 0–63 (R133). -/
abbrev Seq := BitVec 6
/-- An image signature, 15 bits (R181). -/
abbrev Signature := BitVec 15
/-- A timer (R1): stopped, or running until the moment of the time base, in µs, that is held here. -/
abbrev Timer := Option Nat

/-- Add 1, staying at the greatest value (R175: a tally of 255 stays at 255). -/
def satInc {w : Nat} (x : BitVec w) : BitVec w :=
  if x = BitVec.allOnes w then x else x + 1

/-- The place `i` of a table. -/
def look {α : Type} {n : Nat} (v : Vector α n) (i : Fin n) : α := v.get i

/-- A table with the place `i` replaced. -/
def upd {α : Type} {n : Nat} (v : Vector α n) (i : Fin n) (x : α) : Vector α n :=
  v.set i.val x i.isLt

@[simp] theorem look_upd_self {α : Type} {n : Nat} (v : Vector α n) (i : Fin n) (x : α) :
    look (upd v i x) i = x := by
  simp [look, upd, Vector.get_eq_getElem]

theorem look_upd {α : Type} {n : Nat} (v : Vector α n) (i j : Fin n) (x : α) :
    look (upd v i x) j = if i = j then x else look v j := by
  simp only [look, upd, Vector.get_eq_getElem, Vector.getElem_set, Fin.ext_iff]

@[simp] theorem look_upd_ne {α : Type} {n : Nat} (v : Vector α n) {i j : Fin n} (x : α) (h : i ≠ j) :
    look (upd v i x) j = look v j := by
  simp [look_upd, h]

@[simp] theorem look_replicate {α : Type} {n : Nat} (x : α) (i : Fin n) :
    look (Vector.replicate n x) i = x := by
  simp [look, Vector.get_eq_getElem]

@[simp] theorem look_ofFn {α : Type} {n : Nat} (f : Fin n → α) (i : Fin n) :
    look (Vector.ofFn f) i = f i := by
  simp [look, Vector.get_eq_getElem]

/-- Every index of a table, ascending. -/
def indices (n : Nat) : List (Fin n) := List.finRange n

@[simp] theorem mem_indices {n : Nat} (i : Fin n) : i ∈ indices n := List.mem_finRange i

end Sys2Proof
end

