-- ==== Sys2Proof/Syntax.lean ====
section
/-! DEFINITION. The commands of the block: one constructor per row of spec/opcode_table.json, with the operands
of the event (the table gives none: log entry 1), and the payloads a frame can carry (R118, R119). -/

namespace Sys2Proof

/-- The direction of an edge (R5, R7), and the last direction an EDGE carries (R119). -/
inductive Direction
  | rise
  | fall
  deriving DecidableEq, Repr

/-- The eight kinds of frame (R118). -/
inductive Kind
  | edge
  | hold
  | clear
  | release
  | presence
  | query
  | report
  | join
  deriving DecidableEq, Repr

/-- The payload of a frame, by its kind, without the spare bits (R119). -/
inductive Msg
  /-- Repeat count and last direction. -/
  | edge (count : BitVec 4) (dir : Direction)
  /-- Instance number and re-announce flag. -/
  | hold (inst : InstNo) (reannounce : Bool)
  /-- Instance number. -/
  | clear (inst : InstNo)
  /-- Hold owner address and instance number. -/
  | release (owner : Addr) (inst : InstNo)
  /-- Fault-set bit, station state code and any-hold bit. -/
  | presence (faulty : Bool) (code : BitVec 3) (anyHold : Bool)
  /-- Target address, item code and index. -/
  | query (target : Addr) (item index : Byte)
  /-- Querier address, item code, index and three bytes of data. -/
  | report (querier : Addr) (item index d0 d1 d2 : Byte)
  /-- Fresh flag and signature. -/
  | join (fresh : Bool) (signature : Signature)
  deriving DecidableEq, Repr

/-- The kind a payload belongs to (R118). -/
def Msg.kind : Msg → Kind
  | .edge _ _ => .edge
  | .hold _ _ => .hold
  | .clear _ => .clear
  | .release _ _ => .release
  | .presence _ _ _ => .presence
  | .query _ _ _ => .query
  | .report _ _ _ _ _ _ => .report
  | .join _ _ => .join

/-- What every received frame carries beside kind, channel and payload: standing, sender address and sequence
number (section 6.4). -/
structure Rx where
  standing : BitVec 4
  sender : Addr
  seq : Seq
  deriving DecidableEq, Repr

/-- The commands: the part's events, each whole and indivisible (spec/95_what_each_step_holds.md). -/
inductive Instr
  /-- Power-on or release of RST ends, with the levels of ADR4–ADR0 and RATE1–RATE0 (R185, R177). -/
  | fullReset (adr : Addr) (rate : BitVec 2)
  /-- The 1 ms of RESET-HOLD expires (R178). -/
  | resetHoldExpiry
  /-- Byte 10 of a pass has been received; the operand is bytes 0–10 (R180). -/
  | headerCheck (header : Vector Byte 11)
  /-- The 10 µs wait after a failed pass expires (R180). -/
  | passRetryWaitExpiry
  /-- Byte 512 has been received; the operand is bytes 11–512 (R179). -/
  | readPassEnd (body : Vector Byte 502)
  /-- The level at input pin `line` becomes `level` (R2). -/
  | inputPinChange (line : Fin 16) (level : Bool)
  /-- The stability interval of input line `line` ends (R3). -/
  | stabilityIntervalExpiry (line : Fin 16)
  /-- The release timer of source entry `entry` expires (R29). -/
  | releaseTimerExpiry (entry : Fin 16)
  /-- The repeat timer of source entry `entry` expires (R34). -/
  | repeatTimerExpiry (entry : Fin 16)
  /-- The phase timer of generator `g` expires in DELAY (R76). -/
  | delayExpiry (g : Fin 8)
  /-- The phase timer of generator `g` expires in PULSE (R78). -/
  | pulseExpiry (g : Fin 8)
  /-- The phase timer of generator `g` expires in GAP (R79). -/
  | gapExpiry (g : Fin 8)
  /-- Three bit times without a falling edge (R114). -/
  | busIdle
  /-- The ten cells of the contention field were sampled as sent (R133). -/
  | contentionWon
  /-- The station sent 1 and sampled 0 in the contention field (R132). -/
  | contentionLost
  /-- The sender sampled 0 where it sent 1 after the contention field (R135). -/
  | bitError
  /-- The NAK slot's sampling point of the station's own frame, with what the two slots showed (R139). -/
  | attemptConclusion (ackSeen nakSeen : Bool)
  /-- The hold-off timer expires (R140). -/
  | holdOffExpiry
  /-- 1.5 bit times without a falling edge before the frame is complete (R114). -/
  | frameTruncation
  /-- A frame in error completes; the operand is its cells from the class bit to the end of the CRC field (R123). -/
  | frameInError (cells : List Bool)
  /-- A correct frame bearing the own address, not sent wholly by this station, completes (R143). -/
  | ownAddressFrame (standing : BitVec 4) (seq : Seq) (channel : Channel) (msg : Msg)
  /-- A correct EDGE from a peer (R58). -/
  | edgeArrival (rx : Rx) (channel : Channel) (count : BitVec 4) (dir : Direction)
  /-- A correct HOLD from a peer (R59). -/
  | holdArrival (rx : Rx) (channel : Channel) (inst : InstNo) (reannounce : Bool)
  /-- A correct CLEAR from a peer (R61). -/
  | clearArrival (rx : Rx) (channel : Channel) (inst : InstNo)
  /-- A correct RELEASE from a peer (R30). -/
  | releaseArrival (rx : Rx) (channel : Channel) (owner : Addr) (inst : InstNo)
  /-- A correct PRESENCE from a peer (R160). -/
  | presenceArrival (rx : Rx) (faulty : Bool) (code : BitVec 3) (anyHold : Bool)
  /-- A correct JOIN from a peer (R156). -/
  | joinArrival (rx : Rx) (fresh : Bool) (signature : Signature)
  /-- A correct REPORT from a peer (R147). -/
  | reportArrival (rx : Rx) (querier : Addr) (item index d0 d1 d2 : Byte)
  /-- A correct QUERY to the station `target` (R147). -/
  | queryOtherTarget (rx : Rx) (target : Addr) (item index : Byte)
  /-- A QUERY of item SUMMARY to this station (R169). -/
  | querySummary (rx : Rx) (index : Byte)
  /-- A QUERY of item SOURCE to this station (R169). -/
  | querySource (rx : Rx) (index : Byte)
  /-- A QUERY of item ACCEPT to this station (R169). -/
  | queryAccept (rx : Rx) (index : Byte)
  /-- A QUERY of item GENERATOR to this station (R169). -/
  | queryGenerator (rx : Rx) (index : Byte)
  /-- A QUERY of item COUNTER to this station (R169). -/
  | queryCounter (rx : Rx) (index : Byte)
  /-- A QUERY of item ROSTER to this station (R169). -/
  | queryRoster (rx : Rx) (index : Byte)
  /-- A QUERY of item TALLY to this station (R169). -/
  | queryTally (rx : Rx) (index : Byte)
  /-- A QUERY of item OUTPUTS to this station (R169). -/
  | queryOutputs (rx : Rx) (index : Byte)
  /-- A QUERY of item GROUPS to this station (R169). -/
  | queryGroups (rx : Rx) (index : Byte)
  /-- A QUERY of item FAULT-RESET to this station (R171). -/
  | faultReset (rx : Rx) (index : Byte)
  /-- A QUERY of item RESTART to this station (R172). -/
  | queryRestart (rx : Rx) (index : Byte)
  /-- A QUERY of an item code above 10 to this station (R168). -/
  | queryUnknownItem (rx : Rx) (item index : Byte)
  /-- The beacon interval timer expires (R152). -/
  | beaconIntervalExpiry
  /-- The first falling edge on an idle bus (R114). -/
  | frameBegins
  deriving DecidableEq, Repr

end Sys2Proof
end

