-- ==== Sys2Proof/Decode.lean ====
section
/-! DEFINITION. The command that a word spells by the bits of spec/opcode_table.json. No row of the table has bits
(its "fields" are empty and no row is fixed), so no word spells a command (log entry 24). -/

namespace Sys2Proof

/-- The command a word of the table spells: none, since no row has bits. -/
def decodeTableWord (_nbits _w : Nat) : Option Instr := none

end Sys2Proof
end

