-- ==== Sys2Proof/Machine/State.lean ====
section
/-! DEFINITION. The state of the station, block by block (section 0.3), as plain data, and its reset values. -/

namespace Sys2Proof.Machine

/-! ## Names -/

/-- The six station states (section 7.4). -/
inductive StationState
  | offline
  | listening
  | joining
  | joined
  | withdrawn
  | conflict
  deriving DecidableEq, Repr

/-- The receive phase (section 6.3). -/
inductive ReceivePhase
  | busIdle
  | receiving
  | slots
  | waitingIdle
  deriving DecidableEq, Repr

/-- What the station itself is sending: nothing, the contention field, or the rest of its frame. Both carry the
standing that the contention field was sent with (R132, R133). -/
inductive TxActivity
  | idle
  | contending (standing : BitVec 4)
  | attempting (standing : BitVec 4)
  deriving DecidableEq, Repr

/-- What the station drove in the slots of the last frame it received to its end (R122, R123, R124). -/
inductive SlotAnswer
  | none
  | ack
  | nak
  deriving DecidableEq, Repr

/-- The loader states (section 10.2). -/
inductive LoaderPhase
  | resetHold
  | reading
  | checking
  | ready
  | failed
  deriving DecidableEq, Repr

/-- The memory port, as far as the levels of its lines are stated (section 10.2, R178, R179). -/
inductive PortState
  /-- MCS high, MCK low, MDO low. -/
  | holdLevels
  /-- MCS low: a read pass clocks MCK and MDO (log entry 6); what MDO shows then is `Loader.mdo`. -/
  | selected
  /-- MCS high; MCK and MDO are not stated (log entry 6). -/
  | deselected
  deriving DecidableEq, Repr

/-- The mode of a source entry (section 1.2). `reserved` keeps a code 5–7, which only an entry whose origin is none
can hold (R182; log entry 12). -/
inductive Mode
  | edgeRise
  | edgeFall
  | edgeBoth
  | holdHigh
  | holdLow
  | reserved (code : BitVec 3)
  deriving DecidableEq, Repr

/-- What a source entry watches (section 1.2). -/
inductive Origin
  | input (line : Fin 16)
  | generator (g : Fin 8)
  | counter (c : Fin 4)
  | none
  deriving DecidableEq, Repr

/-- The states of an edge-mode entry (section 1.3). -/
inductive EdgeState
  | idle
  | owed
  | listed
  | sending
  deriving DecidableEq, Repr

/-- The states of a hold-mode entry (section 2.2). -/
inductive HoldState
  | quiet
  | announcing
  | awaiting
  | orphaned
  | satisfied
  | ending
  deriving DecidableEq, Repr

/-- The states of an acceptance record (section 2.7). -/
inductive RecordState
  | acting
  | releaseOwed
  | releaseListed
  | releaseSending
  | released
  deriving DecidableEq, Repr

/-- The kinds a subscription listens to (section 3.1). `reserved` keeps code 3 of an unused entry (log entry 12). -/
inductive SubKinds
  | edge
  | hold
  | either
  | reserved
  deriving DecidableEq, Repr

/-- The group of a subscription (section 3.1). `reserved` keeps a code 5–7 of an unused entry (log entry 12). -/
inductive SubGroup
  | member (m : Fin 4)
  | always
  | reserved (code : BitVec 3)
  deriving DecidableEq, Repr

/-- The release policy of a subscription (section 3.1). `reserved` keeps code 3 of an unused entry (log entry 12). -/
inductive ReleasePolicy
  | none
  | immediate
  | atIdle
  | reserved
  deriving DecidableEq, Repr

/-- The eleven action kinds (section 3.1). `reserved` keeps a code 11–15 of an unused entry (log entry 12). -/
inductive ActionKind
  | none
  | fire
  | stop
  | select
  | set
  | clear
  | toggle
  | count
  | reset
  | enable
  | disable
  | reserved (code : BitVec 4)
  deriving DecidableEq, Repr

/-- The time units (R71). -/
inductive TimeUnit
  | us1
  | us10
  | us100
  | ms1
  deriving DecidableEq, Repr

/-- The retrigger policies (section 4.2). -/
inductive RetriggerPolicy
  | ignore
  | restart
  | stack
  deriving DecidableEq, Repr

/-- The generator phases (section 4.2). -/
inductive GenPhase
  | idle
  | delay
  | pulse
  | gap
  deriving DecidableEq, Repr

/-- Remaining pulses (section 4.2): a number, or UNENDING. -/
inductive Remaining
  | pulses (n : Byte)
  | unending
  deriving DecidableEq, Repr

/-- The producers of the transmit list (R129). -/
inductive Producer
  | source (i : Fin 16)
  | record (j : Fin 8)
  | responder
  | beacon
  deriving DecidableEq, Repr

/-- What the roster knows of an address (section 8.3). -/
inductive Presence
  | unknown
  | present
  | lost
  | self
  deriving DecidableEq, Repr

/-- Whether a reply carries data or a refusal, with its reason (section 9.1). -/
inductive Answer
  | data
  | refused (reason : BitVec 3)
  deriving DecidableEq, Repr

/-- The states of a pending reply (section 9.1). -/
inductive ReplyState
  | owed
  | listed
  | sending
  deriving DecidableEq, Repr

/-- The nine fault kinds (section 9.4). -/
inductive FaultKind
  | configFailed
  | withdrawn
  | orphaned
  | addressConflict
  | undelivered
  | acceptOverflow
  | lostEdges
  | collision
  | imageMismatch
  deriving DecidableEq, Repr

/-- The ten tallies (R175). -/
inductive TallyName
  | undelivered
  | lostEdges
  | acceptOverflow
  | collisions
  | naksSeen
  | bitErrors
  | duplicates
  | staleReleases
  | queriesDropped
  | missedTriggers
  deriving DecidableEq, Repr

/-! ## Records of one block each -/

/-- An input line (section 1.1). -/
structure InputLine where
  invert : Bool
  filterTime : BitVec 7
  filtered : Bool
  stability : Timer
  deriving DecidableEq, Repr

/-- A source entry: configuration (section 1.2), edge run state (section 1.3), hold run state (section 2.2).
The two sets are lists in ascending address order. -/
structure SourceEntry where
  origin : Origin
  mode : Mode
  channel : Channel
  repeatFlag : Bool
  repeatDelay : Byte
  waiveLost : Bool
  quorum : BitVec 3
  releasers : Vector (Option Addr) 4
  edgeState : EdgeState
  pendingCount : BitVec 4
  nextCount : BitVec 4
  lastDir : Direction
  holdState : HoldState
  inst : InstNo
  condition : Bool
  received : List Addr
  required : List Addr
  reannounces : BitVec 2
  announced : Bool
  predOpen : Bool
  dropNoted : Bool
  releaseTimer : Timer
  repeatTimer : Timer
  deriving DecidableEq, Repr

/-- A duty of an acceptance record (section 2.7). -/
structure Duty where
  sub : Fin 32
  awaited : Option (Fin 8)
  done : Bool
  awaiting : Bool
  deriving DecidableEq, Repr

/-- An acceptance record (section 2.7); its age is its place in `State.ageOrder`. -/
structure AcceptRecord where
  sender : Addr
  channel : Channel
  inst : InstNo
  duties : List Duty
  state : RecordState
  /-- The release entry: current, or none. -/
  releaseListed : Bool
  deriving DecidableEq, Repr

/-- An action or clear action: its kind and its target number (section 3.1). -/
structure Action where
  kind : ActionKind
  target : Option (Fin 8)
  deriving DecidableEq, Repr

/-- A subscription entry (section 3.1); sender filter `none` is "any". -/
structure Subscription where
  channel : Channel
  sender : Option Addr
  kinds : SubKinds
  group : SubGroup
  action : Action
  param : Option (Fin 16)
  clearAction : Action
  policy : ReleasePolicy
  deriving DecidableEq, Repr

/-- A profile (section 4.1). -/
structure Profile where
  delay : BitVec 16
  width : BitVec 16
  gap : BitVec 16
  count : Byte
  unit : TimeUnit
  deriving DecidableEq, Repr

/-- A generator: configuration and run state (section 4.2). -/
structure Generator where
  target : Option (Fin 8)
  activeHigh : Bool
  policy : RetriggerPolicy
  autostart : Bool
  initial : Fin 16
  phase : GenPhase
  activeNumber : Fin 16
  active : Profile
  pendingProfile : Option (Fin 16)
  remaining : Remaining
  pendingTrigger : Bool
  shadowed : Bool
  timer : Timer
  deriving DecidableEq, Repr

/-- An output line (section 5.1). -/
structure OutputLine where
  static : Bool
  owner : Option (Fin 8)
  safe : Bool
  forcedSafe : Bool
  deriving DecidableEq, Repr

/-- An event counter (section 5.5). -/
structure Counter where
  value : BitVec 16
  terminal : BitVec 16
  stick : Bool
  deriving DecidableEq, Repr

/-- An entry of the transmit list (section 7.1). `msg` is the payload, absent until its capture; `unwanted` marks an
ON-BUS entry its producer has given up (R38, R47; log entry 19). -/
structure TxEntry where
  kind : Kind
  channel : Channel
  msg : Option Msg
  producer : Producer
  seq : Option Seq
  retries : Nat
  beenOnBus : Bool
  selfDelivered : Bool
  onBus : Bool
  unwanted : Bool
  deriving DecidableEq, Repr

/-- The bus interface (sections 6.3, 7.1, 7.4) with the image values it uses. -/
structure BusInterface where
  station : StationState
  standing : BitVec 4
  sequence : Seq
  failures : Nat
  fresh : Bool
  holdOff : Timer
  phase : ReceivePhase
  activity : TxActivity
  /-- The station stopped at a bit error in the frame it is receiving (R124). -/
  stopped : Bool
  slotAnswer : SlotAnswer
  retryLimit : BitVec 4
  beaconInterval : Byte
  safeOnWithdraw : Bool
  requireCommonImage : Bool
  deriving DecidableEq, Repr

/-- The beacon (section 8.6) and the beacon interval timer (R152). -/
structure Beacon where
  timer : Timer
  won : Bool
  owesJoin : Bool
  owesPresence : Bool
  deriving DecidableEq, Repr

/-- A roster entry (section 8.3). -/
structure RosterEntry where
  state : Presence
  silence : BitVec 2
  lastSeq : Option Seq
  signature : Option Signature
  freshJoins : Byte
  deriving DecidableEq, Repr

/-- A pending reply (section 9.1). -/
structure Reply where
  querier : Addr
  item : Byte
  index : Byte
  answer : Answer
  restart : Bool
  state : ReplyState
  deriving DecidableEq, Repr

/-- The fault set (section 9.4): which kinds it holds. -/
structure FaultSet where
  configFailed : Bool
  withdrawn : Bool
  orphaned : Bool
  addressConflict : Bool
  undelivered : Bool
  acceptOverflow : Bool
  lostEdges : Bool
  collision : Bool
  imageMismatch : Bool
  deriving DecidableEq, Repr

/-- The configuration loader (section 10.2). -/
structure Loader where
  phase : LoaderPhase
  passCount : Nat
  buffer : List Byte
  crc : BitVec 16
  reason : BitVec 3
  failTable : BitVec 3
  failIndex : BitVec 5
  signature : Option Signature
  timer : Timer
  port : PortState
  deriving DecidableEq, Repr

/-! ## The state -/

/-- The state of the station. -/
structure State where
  /-- The time base, µs since the end of the last full reset (R1). -/
  time : Nat
  /-- The levels at the pins IN0–IN15 (R2). -/
  pins : Vector Bool 16
  /-- The own address (R177). -/
  address : Addr
  /-- The rate setting (R110, R177). -/
  rate : BitVec 2
  inputs : Vector InputLine 16
  sources : Vector SourceEntry 16
  /-- The release timeout of the source table, in steps of 10 ms (section 2.2). -/
  releaseTimeout : Byte
  slots : Vector (Option AcceptRecord) 8
  /-- The age order of the acceptance table, oldest first (section 2.7). -/
  ageOrder : List (Fin 8)
  subs : Vector Subscription 32
  groups : Vector Bool 4
  profiles : Vector Profile 16
  gens : Vector Generator 8
  outs : Vector OutputLine 8
  counters : Vector Counter 4
  /-- The transmit list, head first (R128). -/
  tx : List TxEntry
  bus : BusInterface
  beacon : Beacon
  roster : Vector RosterEntry 32
  reply : Option Reply
  /-- The maintenance address of the query responder (R164). -/
  maintenance : Option Addr
  faults : FaultSet
  tallies : Vector Byte 10
  loader : Loader
  /-- The model's own counter, to which the free values of Config are applied (log entries 9, 10). -/
  freeCount : Nat
  /-- The commands that wait, first in, first out. -/
  pending : List Instr
  deriving DecidableEq, Repr

/-! ## Reset values -/

/-- R4. -/
def InputLine.reset : InputLine :=
  { invert := false, filterTime := 0, filtered := false, stability := none }

/-- R23. -/
def SourceEntry.reset : SourceEntry :=
  { origin := .none, mode := .edgeRise, channel := 0, repeatFlag := false, repeatDelay := 0, waiveLost := false,
    quorum := 0, releasers := Vector.replicate 4 none, edgeState := .idle, pendingCount := 0, nextCount := 0,
    lastDir := .rise, holdState := .quiet, inst := 15, condition := false, received := [], required := [],
    reannounces := 0, announced := false, predOpen := false, dropNoted := false, releaseTimer := none,
    repeatTimer := none }

/-- R54. -/
def Subscription.reset : Subscription :=
  { channel := 0, sender := none, kinds := .edge, group := .always, action := { kind := .none, target := none },
    param := none, clearAction := { kind := .none, target := none }, policy := .none }

/-- R72. -/
def Profile.reset : Profile :=
  { delay := 0, width := 1, gap := 1, count := 1, unit := .us1 }

/-- R73. -/
def Generator.reset : Generator :=
  { target := none, activeHigh := true, policy := .ignore, autostart := false, initial := 0, phase := .idle,
    activeNumber := 0, active := Profile.reset, pendingProfile := none, remaining := .pulses 0,
    pendingTrigger := false, shadowed := false, timer := none }

/-- R95. -/
def OutputLine.reset : OutputLine :=
  { static := false, owner := none, safe := false, forcedSafe := true }

/-- R103. -/
def Counter.reset : Counter :=
  { value := 0, terminal := 65535, stick := false }

/-- R140, R115; the image values are those FAILED defaults to (R140, R152), DESIGN CHOICE of log entry 7. -/
def BusInterface.reset : BusInterface :=
  { station := .offline, standing := 15, sequence := 0, failures := 0, fresh := true, holdOff := none,
    phase := .waitingIdle, activity := .idle, stopped := false, slotAnswer := .none, retryLimit := 8,
    beaconInterval := 10, safeOnWithdraw := false, requireCommonImage := false }

/-- R152, R158. -/
def Beacon.reset : Beacon :=
  { timer := none, won := false, owesJoin := false, owesPresence := false }

/-- R150, for the entry of address `a` in the roster of the station with address `own`. -/
def RosterEntry.reset (own : Addr) (a : Fin 32) : RosterEntry :=
  { state := if own.toNat = a.val then .self else .unknown, silence := 0, lastSeq := none, signature := none,
    freshJoins := 0 }

/-- R173: the fault set is empty. -/
def FaultSet.empty : FaultSet :=
  { configFailed := false, withdrawn := false, orphaned := false, addressConflict := false, undelivered := false,
    acceptOverflow := false, lostEdges := false, collision := false, imageMismatch := false }

/-- R178, with the end of RESET-HOLD at `holdEnd`; the running CRC is the DESIGN CHOICE of log entry 7. -/
def Loader.reset (holdEnd : Nat) : Loader :=
  { phase := .resetHold, passCount := 0, buffer := [], crc := 0, reason := 0, failTable := 0, failIndex := 0,
    signature := none, timer := some holdEnd, port := .holdLevels }

/-- The station right after a full reset with both straps at 0 (R185; the straps and the pin levels are the DESIGN
CHOICE of log entry 7). -/
def State.reset : State :=
  { time := 0
    pins := Vector.replicate 16 false
    address := 0
    rate := 0
    inputs := Vector.replicate 16 InputLine.reset
    sources := Vector.replicate 16 SourceEntry.reset
    releaseTimeout := 0
    slots := Vector.replicate 8 none
    ageOrder := []
    subs := Vector.replicate 32 Subscription.reset
    groups := Vector.replicate 4 false
    profiles := Vector.replicate 16 Profile.reset
    gens := Vector.replicate 8 Generator.reset
    outs := Vector.replicate 8 OutputLine.reset
    counters := Vector.replicate 4 Counter.reset
    tx := []
    bus := BusInterface.reset
    beacon := Beacon.reset
    roster := Vector.ofFn (RosterEntry.reset 0)
    reply := none
    maintenance := none
    faults := FaultSet.empty
    tallies := Vector.replicate 10 0
    loader := Loader.reset 1000
    freeCount := 0
    pending := [] }

/-! ## How a step can stop -/

/-- The faults a step can answer: none. The spec gives every event an effect and names none that stops the station
(NOTES.md, Stops); what it calls a fault is the fault set of State. -/
inductive Fault
  deriving DecidableEq, Repr

/-- The refusals a step can answer. -/
inductive Refusal
  /-- A command that has no meaning yet, by its row's mnemonic; safe. No arm of exec raises it. -/
  | notModelled (mnemonic : String)
  deriving DecidableEq, Repr

/-- The answer of a step of the station. -/
abbrev Result := Host.Outcome State Fault Refusal

end Sys2Proof.Machine
end

