-- ==== Sys2Proof/Machine/Ops.lean ====
section
/-! DEFINITION. The named operations over the state: reading and replacing one entry of a table, timers against the
time base (R1), address sets, and the transmit list as a list (R128–R131). -/

namespace Sys2Proof.Machine

/-! ## One entry of a table -/

/-- The place of an address in the roster. -/
def addrIdx (a : Addr) : Fin 32 := ⟨a.toNat, a.isLt⟩

namespace State

def setTime (s : State) (t : Nat) : State := { s with time := t }
def setPin (s : State) (n : Fin 16) (x : Bool) : State := { s with pins := upd s.pins n x }
def setInput (s : State) (n : Fin 16) (x : InputLine) : State := { s with inputs := upd s.inputs n x }
def setSource (s : State) (i : Fin 16) (x : SourceEntry) : State := { s with sources := upd s.sources i x }
def setSlot (s : State) (j : Fin 8) (x : Option AcceptRecord) : State := { s with slots := upd s.slots j x }
def setAge (s : State) (l : List (Fin 8)) : State := { s with ageOrder := l }
def setGroup (s : State) (m : Fin 4) (x : Bool) : State := { s with groups := upd s.groups m x }
def setGen (s : State) (g : Fin 8) (x : Generator) : State := { s with gens := upd s.gens g x }
def setOut (s : State) (o : Fin 8) (x : OutputLine) : State := { s with outs := upd s.outs o x }
def setCounter (s : State) (c : Fin 4) (x : Counter) : State := { s with counters := upd s.counters c x }
def setTx (s : State) (l : List TxEntry) : State := { s with tx := l }
def setBus (s : State) (x : BusInterface) : State := { s with bus := x }
def setBeacon (s : State) (x : Beacon) : State := { s with beacon := x }
def setRoster (s : State) (a : Fin 32) (x : RosterEntry) : State := { s with roster := upd s.roster a x }
def setReply (s : State) (x : Option Reply) : State := { s with reply := x }
def setFaults (s : State) (x : FaultSet) : State := { s with faults := x }
def setTally (s : State) (n : Fin 10) (x : Byte) : State := { s with tallies := upd s.tallies n x }
def setLoader (s : State) (x : Loader) : State := { s with loader := x }

def input (s : State) (n : Fin 16) : InputLine := look s.inputs n
def source (s : State) (i : Fin 16) : SourceEntry := look s.sources i
def slot (s : State) (j : Fin 8) : Option AcceptRecord := look s.slots j
def sub (s : State) (k : Fin 32) : Subscription := look s.subs k
def gen (s : State) (g : Fin 8) : Generator := look s.gens g
def out (s : State) (o : Fin 8) : OutputLine := look s.outs o
def counter (s : State) (c : Fin 4) : Counter := look s.counters c
def rosterAt (s : State) (a : Addr) : RosterEntry := look s.roster (addrIdx a)

end State

/-- Run an operation for every index of a table, ascending. -/
def forEach {n : Nat} (f : Fin n → State → State) (s : State) : State :=
  (indices n).foldl (fun t i => f i t) s

/-! ## Timers (R1) -/

/-- A timer started now with a duration of `us` microseconds. -/
def State.timerFor (s : State) (us : Nat) : Timer := some (s.time + us)

/-- The moment of an expiry: the time base has reached the timer's end. A timer that is behind the time base leaves
it as it is (log entry 3). -/
def State.reach (s : State) (t : Timer) : State :=
  match t with
  | none => s
  | some d => s.setTime (max s.time d)

/-- RESET-HOLD lasts 1 ms (R178). -/
def resetHoldUs : Nat := 1000
/-- The wait before the next pass (R180). -/
def retryWaitUs : Nat := 10
/-- What the loader sends at the start of a pass: the read command 03h and the address 0000h, high byte first (R179). -/
def readCommand : List Byte := [0x03, 0x00, 0x00]
/-- The command and address bytes and the 11 header bytes, bit by bit at 1 MHz (R179). -/
def headerUs : Nat := 8 * (readCommand.length + 11)
/-- The 502 bytes after the header at 1 MHz (R179: a whole pass takes 4.128 ms). -/
def bodyUs : Nat := 4016
/-- The hold-off of a withdrawal (R142). -/
def withdrawUs : Nat := 256000
/-- One step of the beacon interval and of the release timeout (R152, section 2.2). -/
def tenMs : Nat := 10000
/-- One step of a filter time (section 1.1). -/
def filterStepUs : Nat := 50
/-- One step of a repeat delay (section 2.2). -/
def oneMs : Nat := 1000

/-- The beacon interval in microseconds (R152). -/
def BusInterface.beaconUs (b : BusInterface) : Nat := b.beaconInterval.toNat * tenMs

/-! ## Address sets -/

/-- Add an address to a set kept as an ascending list; an address already there stays once. -/
def addrInsert (a : Addr) : List Addr → List Addr
  | [] => [a]
  | b :: t =>
    if a.toNat < b.toNat then a :: b :: t
    else if a = b then b :: t
    else b :: addrInsert a t

/-- The set of the addresses in a list. -/
def addrSet (l : List Addr) : List Addr := l.foldr addrInsert []

/-! ## The transmit list as a list (R128–R131) -/

/-- The class of an entry (section 7.1). -/
def TxEntry.urgent (e : TxEntry) : Bool :=
  match e.kind with
  | .hold | .clear | .release => true
  | .edge | .presence | .query | .report | .join => false

/-- An entry as admission makes it (R130): WAITING, retry count 0, both flags no, no sequence number. -/
def TxEntry.fresh (k : Kind) (ch : Channel) (m : Option Msg) (p : Producer) : TxEntry :=
  { kind := k, channel := ch, msg := m, producer := p, seq := none, retries := 0, beenOnBus := false,
    selfDelivered := false, onBus := false, unwanted := false }

/-- Whether the producer has an entry in the list (R129). -/
def hasEntry (p : Producer) (l : List TxEntry) : Bool := l.any (fun e => e.producer = p)

/-- The entry of a producer in the list (R129: at most one). -/
def entryOf (p : Producer) (l : List TxEntry) : Option TxEntry := l.find? (fun e => e.producer = p)

/-- Put an entry behind the urgent entries at the front of a list (R128). -/
def insertAfterUrgent (e : TxEntry) : List TxEntry → List TxEntry
  | [] => [e]
  | h :: t => if h.urgent then h :: insertAfterUrgent e t else e :: h :: t

/-- The place of an urgent entry admitted: after the last urgent entry; where there is none, at the front, or directly
after an ON-BUS head (R128). -/
def admitUrgent (e : TxEntry) : List TxEntry → List TxEntry
  | [] => [e]
  | h :: t => if h.onBus then h :: insertAfterUrgent e t else insertAfterUrgent e (h :: t)

/-- The place of an entry admitted, by its class (R128). -/
def admitEntry (e : TxEntry) (l : List TxEntry) : List TxEntry :=
  if e.urgent then admitUrgent e l else l ++ [e]

/-- The place of the head when it returns to WAITING: an urgent entry keeps the front, a normal entry takes the first
place among the normal entries (R128). -/
def returnEntry (e : TxEntry) (rest : List TxEntry) : List TxEntry :=
  if e.urgent then { e with onBus := false } :: rest
  else insertAfterUrgent { e with onBus := false } rest

/-- A producer gives up its entry: a WAITING entry is withdrawn (R131), an ON-BUS entry stays and is no longer wanted
(R38, R47). -/
def giveUp (p : Producer) : List TxEntry → List TxEntry
  | [] => []
  | e :: t =>
    if e.producer = p then
      if e.onBus then { e with unwanted := true } :: t else t
    else e :: giveUp p t

/-- A producer withdraws its WAITING entry; an ON-BUS entry stays (R131). -/
def withdrawWaiting (p : Producer) (l : List TxEntry) : List TxEntry :=
  l.filter (fun e => !(e.producer = p && !e.onBus))

/-- The producer gives up its entry (R31, R38, R45, R47, R48, R50). -/
def State.giveUpEntry (s : State) (p : Producer) : State := s.setTx (giveUp p s.tx)

/-- The producer withdraws its WAITING entry (R131). -/
def State.withdrawEntry (s : State) (p : Producer) : State := s.setTx (withdrawWaiting p s.tx)

end Sys2Proof.Machine
end

