-- ==== Sys2Proof/Machine/Flags.lean ====
section
/-! DEFINITION. The status unit (sections 9.4, 9.5): the fault set, the line FLT and the ten tallies. -/

namespace Sys2Proof.Machine

/-- Whether a kind is in the fault set. -/
def FaultSet.has (f : FaultSet) : FaultKind → Bool
  | .configFailed => f.configFailed
  | .withdrawn => f.withdrawn
  | .orphaned => f.orphaned
  | .addressConflict => f.addressConflict
  | .undelivered => f.undelivered
  | .acceptOverflow => f.acceptOverflow
  | .lostEdges => f.lostEdges
  | .collision => f.collision
  | .imageMismatch => f.imageMismatch

/-- The fault set with a kind put in or taken out (R173). -/
def FaultSet.put (f : FaultSet) (k : FaultKind) (b : Bool) : FaultSet :=
  match k with
  | .configFailed => { f with configFailed := b }
  | .withdrawn => { f with withdrawn := b }
  | .orphaned => { f with orphaned := b }
  | .addressConflict => { f with addressConflict := b }
  | .undelivered => { f with undelivered := b }
  | .acceptOverflow => { f with acceptOverflow := b }
  | .lostEdges => { f with lostEdges := b }
  | .collision => { f with collision := b }
  | .imageMismatch => { f with imageMismatch := b }

/-- Whether the fault set is non-empty (R174). -/
def FaultSet.nonEmpty (f : FaultSet) : Bool :=
  f.configFailed || f.withdrawn || f.orphaned || f.addressConflict || f.undelivered || f.acceptOverflow ||
    f.lostEdges || f.collision || f.imageMismatch

/-- The fault kinds byte of SUMMARY (section 9.2.1): CONFIG-FAILED is not one of the kinds it carries. -/
def FaultSet.byte (f : FaultSet) : Byte :=
  BitVec.ofBool f.withdrawn ++ BitVec.ofBool f.orphaned ++ BitVec.ofBool f.addressConflict ++
    BitVec.ofBool f.undelivered ++ BitVec.ofBool f.acceptOverflow ++ BitVec.ofBool f.lostEdges ++
    BitVec.ofBool f.collision ++ BitVec.ofBool f.imageMismatch

/-- FLT is asserted (held low) exactly when the fault set is non-empty (R174). -/
def State.flt (s : State) : Bool := s.faults.nonEmpty

/-- A kind enters the fault set (R173). -/
def State.latch (s : State) (k : FaultKind) : State := s.setFaults (s.faults.put k true)

/-- A kind leaves the fault set (R173). -/
def State.unlatch (s : State) (k : FaultKind) : State := s.setFaults (s.faults.put k false)

/-- The kinds FAULT-RESET removes (R171). -/
def FaultSet.clearLatched (f : FaultSet) : FaultSet :=
  { f with undelivered := false, acceptOverflow := false, lostEdges := false, collision := false,
           imageMismatch := false }

/-- The number of a tally (R175). -/
def TallyName.number : TallyName → Fin 10
  | .undelivered => 0
  | .lostEdges => 1
  | .acceptOverflow => 2
  | .collisions => 3
  | .naksSeen => 4
  | .bitErrors => 5
  | .duplicates => 6
  | .staleReleases => 7
  | .queriesDropped => 8
  | .missedTriggers => 9

/-- The value of a tally. -/
def State.tally (s : State) (t : TallyName) : Byte := look s.tallies t.number

/-- Count a tally once, saturating at 255 (R175). -/
def State.count (s : State) (t : TallyName) : State := s.setTally t.number (satInc (s.tally t))

/-- Count a tally `n` times (R175). -/
def State.countTimes (s : State) (t : TallyName) : Nat → State
  | 0 => s
  | n + 1 => (s.count t).countTimes t n

/-- An Undelivered frame: the undelivered tally increments and UNDELIVERED is latched (R17, R28, R35, R37, R38, R46,
R141, R166). -/
def State.noteUndelivered (s : State) : State := (s.count .undelivered).latch .undelivered

/-- An edge lost to saturation: the lost-edges tally increments and LOST-EDGES is latched (R12, R15, R19). -/
def State.noteLostEdge (s : State) : State := (s.count .lostEdges).latch .lostEdges

end Sys2Proof.Machine
end

