-- ==== Sys2Proof/Machine/Sources.lean ====
section
/-! DEFINITION. The source table: edge counting (chapter 1) and the owner's side of the hold protocol (chapter 2,
sections 2.2–2.6). Demands are not stored: an entry owes what its state says while it has no entry in the
transmit list, and Machine/Transmit.lean admits it. -/

namespace Sys2Proof.Machine

/-! ## Modes and origins -/

/-- The hold modes (section 1.2). -/
def Mode.isHold : Mode → Bool
  | .holdHigh | .holdLow => true
  | .edgeRise | .edgeFall | .edgeBoth | .reserved _ => false

/-- Whether a mode counts an edge of its origin: by direction at an input line (R7), every COMPLETE and every
TERMINAL in each edge mode (R8, R9). -/
def Mode.counts (m : Mode) (o : Origin) (d : Direction) : Bool :=
  match m, o with
  | .edgeRise, .input _ => d = .rise
  | .edgeFall, .input _ => d = .fall
  | .edgeBoth, .input _ => true
  | .edgeRise, .generator _ | .edgeRise, .counter _ => true
  | .edgeFall, .generator _ | .edgeFall, .counter _ => true
  | .edgeBoth, .generator _ | .edgeBoth, .counter _ => true
  | .holdHigh, _ | .holdLow, _ | .reserved _, _ | _, .none => false

/-- Whether the condition of a hold mode is asserted at an origin level (R10). -/
def Mode.asserted (m : Mode) (level : Bool) : Bool :=
  match m with
  | .holdHigh => level
  | .holdLow => !level
  | .edgeRise | .edgeFall | .edgeBoth | .reserved _ => false

/-- A hold-mode entry in use: an entry whose origin is none is inert (R6). -/
def SourceEntry.isHold (e : SourceEntry) : Bool := e.mode.isHold && e.origin != .none

/-- An edge-mode entry that owes EDGE (R11, R13). -/
def SourceEntry.owesEdge (e : SourceEntry) : Bool := e.edgeState = .owed

/-- A hold-mode entry whose state owes HOLD or CLEAR (R27, R29, R37). -/
def SourceEntry.owesHold (e : SourceEntry) : Bool := e.holdState = .announcing || e.holdState = .ending

/-- Some hold-mode source entry has its condition asserted (R119, section 9.2.1). -/
def State.anyHold (s : State) : Bool :=
  (indices 16).any (fun i => (s.source i).isHold && (s.source i).condition)

/-! ## Edges (R7–R9, R11, R12, R15) -/

/-- An edge-mode entry after a qualifying edge, and whether the edge was lost (R11, R12, R15). -/
def SourceEntry.countEdge (e : SourceEntry) (d : Direction) : SourceEntry × Bool :=
  match e.edgeState with
  | .idle => ({ e with pendingCount := 1, lastDir := d, edgeState := .owed }, false)
  | .owed | .listed => ({ e with pendingCount := satInc e.pendingCount, lastDir := d }, e.pendingCount = 15)
  | .sending => ({ e with nextCount := satInc e.nextCount, lastDir := d }, e.nextCount = 15)

/-- A qualifying edge reaches entry `i`. -/
def State.takeEdge (s : State) (i : Fin 16) (d : Direction) : State :=
  let r := (s.source i).countEdge d
  let t := s.setSource i r.1
  if r.2 then t.noteLostEdge else t

/-- An edge of an origin reaches every entry on it, counted as the mode says (R5, R7, R8, R9). -/
def State.presentEdge (s : State) (o : Origin) (d : Direction) : State :=
  forEach (fun i t => if (t.source i).origin = o && (t.source i).mode.counts o d then t.takeEdge i d else t) s

/-! ## Instances and the quorum (R25, R26) -/

/-- The fault kind ORPHANED is present while at least one entry is ORPHANED (R33). -/
def State.refreshOrphaned (s : State) : State :=
  s.setFaults (s.faults.put .orphaned ((indices 16).any (fun i => (s.source i).holdState = .orphaned)))

/-- The required set of an instance that starts now (R26). -/
def State.requiredFor (s : State) (e : SourceEntry) : List Addr :=
  if e.quorum = 0 then
    addrSet ((e.releasers.toList.filterMap id).filter
      (fun a => a != s.address && !(e.waiveLost && (s.rosterAt a).state = .lost)))
  else []

/-- Entry `i` starts a new instance (R25). -/
def State.startInst (s : State) (i : Fin 16) (byRepeat : Bool) : State :=
  let e := s.source i
  s.setSource i
    { e with
      inst := e.inst + 1
      received := []
      required := s.requiredFor e
      reannounces := 0
      announced := false
      dropNoted := false
      predOpen := byRepeat
      releaseTimer := none
      repeatTimer := none
      holdState := .announcing }

/-- Whether the quorum of the current instance is met (R26). -/
def SourceEntry.quorumMet (e : SourceEntry) : Bool :=
  if e.quorum = 0 then e.required.all (fun a => e.received.contains a)
  else e.quorum.toNat ≤ e.received.length

/-- The quorum of entry `i` is met (R31). A repeat delay of 0 expires at once (R1, R34). -/
def State.quorumReached (s : State) (i : Fin 16) : State :=
  let e := s.source i
  let t := s.giveUpEntry (.source i)
  if e.dropNoted then
    (t.setSource i { e with holdState := .ending, dropNoted := false, releaseTimer := none }).refreshOrphaned
  else if e.repeatFlag then
    if e.repeatDelay = 0 then
      ((t.setSource i { e with holdState := .satisfied, releaseTimer := none }).startInst i true).refreshOrphaned
    else
      (t.setSource i { e with holdState := .satisfied, releaseTimer := none,
                              repeatTimer := s.timerFor (e.repeatDelay.toNat * oneMs) }).refreshOrphaned
  else
    (t.setSource i { e with holdState := .satisfied, releaseTimer := none, repeatTimer := none }).refreshOrphaned

/-- Test the quorum of entry `i` (R28, R31, R39). -/
def State.testQuorum (s : State) (i : Fin 16) : State :=
  if (s.source i).quorumMet then s.quorumReached i else s

/-! ## The condition (R10, R27, R35, R36) -/

/-- The condition of entry `i` asserts (R27, R35(c), R37). -/
def State.conditionAsserts (s : State) (i : Fin 16) : State :=
  let e := s.source i
  let t := s.setSource i { e with condition := true }
  match e.holdState with
  | .quiet => t.startInst i false
  | .announcing => t.setSource i { e with condition := true, dropNoted := false }
  | .awaiting | .orphaned | .satisfied | .ending => t

/-- A drop at an ANNOUNCING entry whose HOLD is not on the bus: case (a) or (b) of R35, by the announced flag. An
instance that is given back keeps the releases-received set, the required set and the re-announce count of the retracted
one, of which R35 says nothing (DESIGN CHOICE; log entry 33). -/
def State.dropOffBus (s : State) (i : Fin 16) : State :=
  let e := s.source i
  let t := s.withdrawEntry (.source i)
  if e.announced then t.setSource i { e with holdState := .ending, dropNoted := false }
  else if e.predOpen then
    t.setSource i { e with holdState := .ending, inst := e.inst - 1, predOpen := false, dropNoted := false }
  else t.setSource i { e with holdState := .quiet, dropNoted := false }

/-- The HOLD of the current instance of entry `i` is ON-BUS. -/
def State.holdOnBus (s : State) (i : Fin 16) : Bool :=
  match entryOf (.source i) s.tx with
  | some f => f.onBus && !f.unwanted
  | none => false

/-- The condition of entry `i` drops (R35, R36, R37). -/
def State.conditionDrops (s : State) (i : Fin 16) : State :=
  let e := s.source i
  let t := s.setSource i { e with condition := false }
  match e.holdState with
  | .quiet | .ending => t
  | .announcing =>
    if s.holdOnBus i then t.setSource i { e with condition := false, dropNoted := true } else t.dropOffBus i
  | .awaiting | .orphaned | .satisfied =>
    (t.setSource i { e with condition := false, holdState := .ending, releaseTimer := none,
                            repeatTimer := none }).refreshOrphaned

/-- The condition of entry `i` is found to be `c`; a report that leaves it as it was is no change (R10). -/
def State.setCondition (s : State) (i : Fin 16) (c : Bool) : State :=
  if (s.source i).condition = c then s
  else if c then s.conditionAsserts i
  else s.conditionDrops i

/-- The level of an origin reaches the hold-mode entries on it (R5, R8, R9, R10). -/
def State.presentLevel (s : State) (o : Origin) (level : Bool) : State :=
  forEach
    (fun i t =>
      if (t.source i).origin = o && (t.source i).isHold then
        t.setCondition i ((t.source i).mode.asserted level)
      else t) s

/-! ## Timers of a hold (R29, R34) -/

/-- The release timer of an AWAITING entry starts (R28, R29). -/
def State.releaseTimerStart (s : State) : Timer := s.timerFor (s.releaseTimeout.toNat * tenMs)

/-- The release timer of entry `i` expires (R29). -/
def State.releaseExpired (s : State) (i : Fin 16) : State :=
  let e := s.source i
  if e.reannounces.toNat < 3 then
    s.setSource i { e with reannounces := e.reannounces + 1, holdState := .announcing, releaseTimer := none }
  else
    (s.setSource i { e with holdState := .orphaned, releaseTimer := none, repeatTimer := none }).refreshOrphaned

/-! ## Releases and waivers (R30, R39) -/

/-- The hold-mode entry with a channel (R30; validation lets at most one have it, R182). -/
def State.holdEntryOn (s : State) (ch : Channel) : Option (Fin 16) :=
  (indices 16).find? (fun i => (s.source i).isHold && (s.source i).channel = ch)

/-- Whether an address is in the releaser list of an entry. -/
def SourceEntry.lists (e : SourceEntry) (a : Addr) : Bool := e.releasers.toList.contains (some a)

/-- A RELEASE of instance `k` from `a` reaches entry `i`: the rows of R30's table after the first, in order. -/
def State.releaseAt (s : State) (i : Fin 16) (a : Addr) (k : InstNo) : State :=
  let e := s.source i
  if e.inst ≠ k then s.count .staleReleases
  else if e.holdState = .quiet ∨ e.holdState = .ending then s.count .staleReleases
  else if e.holdState = .satisfied then s
  else if e.quorum = 0 ∧ e.lists a = false then s.count .staleReleases
  else if e.received.contains a then s
  else if 4 ≤ e.received.length then s
  else
    let t := s.setSource i { e with received := addrInsert a e.received }
    if e.announced then t.testQuorum i else t

/-- A RELEASE reaches the source table (R30). -/
def State.takeRelease (s : State) (a : Addr) (ch : Channel) (owner : Addr) (k : InstNo) : State :=
  if owner ≠ s.address then s
  else
    match s.holdEntryOn ch with
    | none => s.count .staleReleases
    | some i => s.releaseAt i a k

/-- Whether a LOST report of `a` changes entry `e` (R39). -/
def SourceEntry.waives (e : SourceEntry) (a : Addr) : Bool :=
  e.isHold && e.quorum = 0 && e.waiveLost && e.required.contains a &&
    (e.holdState = .announcing || e.holdState = .awaiting || e.holdState = .orphaned)

/-- A LOST report of `a` reaches entry `i` (R39). -/
def State.waiveAt (s : State) (i : Fin 16) (a : Addr) : State :=
  let e := s.source i
  if e.waives a then
    let t := s.setSource i { e with required := e.required.filter (fun b => b != a) }
    if e.holdState = .announcing && !e.announced then t else t.testQuorum i
  else s

/-- A LOST report of `a` reaches the source table (R39). -/
def State.waive (s : State) (a : Addr) : State := forEach (fun i t => t.waiveAt i a) s

/-! ## The transmit side tells the entry (R14, R16, R17, R20, R28, R35, R37, R38) -/

/-- How an entry left the transmit list at a conclusion (R136, R137). -/
inductive TxResult
  | delivered
  | noAudience
  | undelivered
  deriving DecidableEq, Repr

/-- Count and latch an Undelivered result, and nothing for the other two. -/
def State.noteResult (s : State) (r : TxResult) : State :=
  match r with
  | .undelivered => s.noteUndelivered
  | .delivered | .noAudience => s

/-- The payload an EDGE captures at its first win (R14). -/
def SourceEntry.edgeMsg (e : SourceEntry) : Msg := .edge e.pendingCount e.lastDir

/-- The first win of the EDGE of entry `i` (R14). -/
def State.edgeWon (s : State) (i : Fin 16) : State :=
  s.setSource i { s.source i with edgeState := .sending, nextCount := 0 }

/-- The conclusion of the EDGE of entry `i` (R16, R17, R18). -/
def State.edgeConcluded (s : State) (i : Fin 16) (r : TxResult) : State :=
  let e := s.source i
  (s.noteResult r).setSource i
    { e with
      pendingCount := e.nextCount
      nextCount := 0
      edgeState := if e.nextCount = 0 then .idle else .owed }

/-- The first win of the HOLD of instance `k` of entry `i`: the announced flag of the current instance (R20, R133).
The instance is announced, so the predecessor-open flag ends (section 2.2; log entry 13). -/
def State.holdWon (s : State) (i : Fin 16) (k : InstNo) : State :=
  let e := s.source i
  if e.inst = k then s.setSource i { e with announced := true, predOpen := false } else s

/-- The conclusion of a HOLD of entry `i` (R28, R35(c)), or of one that is not wanted any more (R38). -/
def State.holdConcluded (s : State) (i : Fin 16) (unwanted : Bool) (r : TxResult) : State :=
  let t := s.noteResult r
  let e := t.source i
  if unwanted || e.holdState ≠ .announcing then t
  else if e.dropNoted then t.setSource i { e with holdState := .ending, dropNoted := false }
  else (t.setSource i { e with holdState := .awaiting, releaseTimer := t.releaseTimerStart }).testQuorum i

/-- The conclusion of a CLEAR of entry `i` (R37). An ENDING entry runs no timer, notes no drop and is not ORPHANED, so
the timers, the drop-noted flag and the fault kind stay as they are. -/
def State.clearConcluded (s : State) (i : Fin 16) (r : TxResult) : State :=
  let t := s.noteResult r
  let e := t.source i
  let u := (t.setSource i { e with announced := false, predOpen := false, dropNoted := false, holdState := .quiet,
                                   releaseTimer := none, repeatTimer := none }).refreshOrphaned
  if e.condition then u.startInst i false else u

/-- The HOLD of entry `i` is back in WAITING (R131): a noted drop is taken by R35(c) and R131. -/
def State.holdReturned (s : State) (i : Fin 16) : State := if (s.source i).dropNoted then s.dropOffBus i else s

/-! ## Flushes (R19, R21) -/

/-- The sum of two counts limited to 15, and how many edges were above 15 (R19). -/
def limitedSum (a b : BitVec 4) : BitVec 4 × Nat :=
  (BitVec.ofNat 4 (min 15 (a.toNat + b.toNat)), a.toNat + b.toNat - 15)

/-- The EDGE of entry `i` is flushed (R19). -/
def State.edgeFlushed (s : State) (i : Fin 16) : State :=
  let e := s.source i
  let r := limitedSum e.pendingCount e.nextCount
  let t := s.setSource i { e with pendingCount := r.1, nextCount := 0, edgeState := .owed }
  let u := t.countTimes .lostEdges r.2
  if r.2 = 0 then u else u.latch .lostEdges

end Sys2Proof.Machine
end

