-- ==== Sys2Proof/Machine/Acceptance.lean ====
section
/-! DEFINITION. The acceptance table (sections 2.7, 2.8): records, duties and releases. The purge (R50) runs clear
actions and stands in Machine/Dispatcher.lean. -/

namespace Sys2Proof.Machine

/-! ## Records and duties -/

/-- The duty subscriptions are those with release policy IMMEDIATE or AT-IDLE (R41). -/
def Subscription.isDuty (e : Subscription) : Bool := e.policy = .immediate || e.policy = .atIdle

/-- The generator a duty awaits: present when the policy is AT-IDLE and the action is FIRE g (R42). -/
def Subscription.awaited (e : Subscription) : Option (Fin 8) :=
  if e.policy = .atIdle ∧ e.action.kind = .fire then e.action.target else none

/-- The duty subscriptions of a snapshot, in ascending index (R41, R56). -/
def State.dutySubs (s : State) (snap : List (Fin 32)) : List (Fin 32) := snap.filter (fun k => (s.sub k).isDuty)

/-- The duty list of a record: the first four duty subscriptions (R42). -/
def State.dutyList (s : State) (snap : List (Fin 32)) : List Duty :=
  ((s.dutySubs snap).take 4).map
    (fun k => { sub := k, awaited := (s.sub k).awaited, done := false, awaiting := false })

/-- Every duty is done (section 2.7). -/
def AcceptRecord.allDone (r : AcceptRecord) : Bool := r.duties.all (fun d => d.done)

/-- An ACTING record whose duties are all done owes its RELEASE (R43). -/
def AcceptRecord.tested (r : AcceptRecord) : AcceptRecord :=
  if r.state = .acting ∧ r.allDone then { r with state := .releaseOwed } else r

/-- A duty at a report of the entry of generator `g` into IDLE (R43). -/
def Duty.atIdle (d : Duty) (g : Fin 8) : Duty :=
  if d.awaiting ∧ d.awaited = some g then { d with done := true } else d

/-- A record at a report of the entry of generator `g` into IDLE (R43). -/
def AcceptRecord.atIdle (r : AcceptRecord) (g : Fin 8) : AcceptRecord :=
  { r with duties := r.duties.map (fun (d : Duty) => d.atIdle g) }.tested

/-- The entry of generator `g` into IDLE is reported to the acceptance table (R43). -/
def State.idleReport (s : State) (g : Fin 8) : State :=
  { s with slots := s.slots.map (fun o => o.map (fun (r : AcceptRecord) => r.atIdle g)) }

/-- The slot of the record of a sender and channel (R41). -/
def State.findRecord (s : State) (a : Addr) (ch : Channel) : Option (Fin 8) :=
  (indices 8).find? (fun j =>
    match s.slot j with
    | some r => r.sender = a && r.channel = ch
    | none => false)

/-- A record leaves its slot and the age order, and gives up its RELEASE (R45, R48, R50). -/
def State.removeRecord (s : State) (j : Fin 8) : State :=
  ((s.setSlot j none).setAge (s.ageOrder.filter (fun i => i != j))).giveUpEntry (.record j)

/-- The slot for a new record: the lowest empty one, else that of the RELEASED record earliest in the age order
(R42). -/
def State.freeSlot (s : State) : Option (Fin 8) :=
  match (indices 8).find? (fun j => s.slot j = none) with
  | some j => some j
  | none =>
    s.ageOrder.find? (fun j =>
      match s.slot j with
      | some r => r.state = .released
      | none => false)

/-- A record takes an instance in slot `j` and goes to the end of the age order (R42, R45). -/
def State.putRecord (s : State) (j : Fin 8) (a : Addr) (ch : Channel) (k : InstNo) (duties : List Duty) : State :=
  (s.setSlot j (some { sender := a, channel := ch, inst := k, duties := duties, state := .acting,
                       releaseListed := false })).setAge (s.ageOrder.filter (fun i => i != j) ++ [j])

/-! ## A HOLD at the table (R41, R42, R44, R45) -/

/-- A repeat of the record's instance: a RELEASED record owes a fresh RELEASE (R44). -/
def AcceptRecord.repeated (r : AcceptRecord) : AcceptRecord :=
  if r.state = .released then { r with state := .releaseOwed } else r

/-- The acceptance table takes a HOLD with its snapshot. The slot in the answer is that of the record made or
superseded, whose duty subscriptions act; with none, no duty subscription acts (R59). -/
def State.takeHold (s : State) (a : Addr) (ch : Channel) (k : InstNo) (snap : List (Fin 32)) :
    State × Option (Fin 8) :=
  let duties := s.dutyList snap
  match s.findRecord a ch with
  | none =>
    if duties = [] then (s, none)
    else
      match s.freeSlot with
      | some j => (s.putRecord j a ch k duties, some j)
      | none => ((s.count .acceptOverflow).latch .acceptOverflow, none)
  | some j =>
    match s.slot j with
    | none => (s, none)
    | some r =>
      if r.inst = k then (s.setSlot j (some r.repeated), none)
      else if duties = [] then (s.removeRecord j, none)
      else ((s.giveUpEntry (.record j)).putRecord j a ch k duties, some j)

/-- A duty once the action of its subscription has run (R43). -/
def State.ranDuty (s : State) (d : Duty) : Duty :=
  match d.awaited with
  | none => { d with done := true }
  | some g => { d with awaiting := true, done := (s.gen g).phase = .idle }

/-- The action of subscription `k` has run for the record in slot `j` (R43). -/
def State.dutyRan (s : State) (j : Fin 8) (k : Fin 32) : State :=
  match s.slot j with
  | none => s
  | some r =>
    s.setSlot j (some { r with duties := r.duties.map (fun d => if d.sub = k then s.ranDuty d else d) })

/-- The test of a record after the last action of its notice (R43, R59). -/
def State.testRecord (s : State) (j : Fin 8) : State := s.setSlot j ((s.slot j).map (fun r => r.tested))

/-- The acceptance table after the clear actions of a CLEAR (R48). -/
def State.closeRecord (s : State) (a : Addr) (ch : Channel) (k : InstNo) : State :=
  match s.findRecord a ch with
  | none => s
  | some j =>
    match s.slot j with
    | none => s
    | some r => if r.inst = k then s.removeRecord j else s

/-! ## The RELEASE of a record (R46, R47, R51) -/

/-- The record in slot `j` with another state and release entry. -/
def State.setRecordState (s : State) (j : Fin 8) (st : RecordState) (listed : Bool) : State :=
  s.setSlot j ((s.slot j).map (fun r => { r with state := st, releaseListed := listed }))

/-- The RELEASE is admitted (R46). -/
def State.releaseAdmitted (s : State) (j : Fin 8) : State := s.setRecordState j .releaseListed true

/-- The first win of the RELEASE (R46). -/
def State.releaseWon (s : State) (j : Fin 8) : State := s.setRecordState j .releaseSending true

/-- The conclusion of a RELEASE (R46); of an unwanted one nothing is taken (R47). -/
def State.releaseConcluded (s : State) (j : Fin 8) (unwanted : Bool) (r : TxResult) : State :=
  if unwanted then s else (s.noteResult r).setRecordState j .released false

/-- The RELEASE is flushed: the record owes it again (R51). -/
def State.releaseFlushed (s : State) (j : Fin 8) : State := s.setRecordState j .releaseOwed false

end Sys2Proof.Machine
end

