-- ==== Sys2Proof/Machine/Outputs.lean ====
section
/-! DEFINITION. The output lines (sections 5.1–5.4): claims, releases, static levels and the level shown. -/

namespace Sys2Proof.Machine

/-- The level a line shows (R96), where a generator `g` shows its active level. -/
def State.shown (s : State) (o : Fin 8) : Bool :=
  let l := s.out o
  if l.forcedSafe then l.safe
  else
    match l.owner with
    | some g => (s.gen g).activeHigh
    | none => l.static

/-- A claim for line `o` by generator `g` (R97), with the answer of the output block: granted or refused. -/
def State.claim (s : State) (o : Fin 8) (g : Fin 8) : State × Bool :=
  match (s.out o).owner with
  | none => (s.setOut o { s.out o with owner := some g }, true)
  | some _ => ((s.count .collisions).latch .collision, false)

/-- A release of line `o` by generator `g` (R98). -/
def State.releaseLine (s : State) (o : Fin 8) (g : Fin 8) : State :=
  if (s.out o).owner = some g then s.setOut o { s.out o with owner := none } else s

/-- The static level of line `o` is set (R66, R100). -/
def State.setStatic (s : State) (o : Fin 8) (b : Bool) : State := s.setOut o { s.out o with static := b }

/-- The static level of line `o` under TOGGLE with count `n` (R66, R100). -/
def State.toggleStatic (s : State) (o : Fin 8) (n : Nat) : State :=
  if n % 2 = 1 then s.setStatic o (!(s.out o).static) else s

/-- The forced-safe flag of every line (R101). -/
def State.setForced (s : State) (b : Bool) : State :=
  { s with outs := s.outs.map (fun l => { l with forcedSafe := b }) }

/-- The station states that are forced-safe conditions, with the option safe-on-withdraw (R101). -/
def forcedIn (st : StationState) (safeOnWithdraw : Bool) : Bool :=
  match st with
  | .offline | .conflict => true
  | .withdrawn => safeOnWithdraw
  | .listening | .joining | .joined => false

end Sys2Proof.Machine
end

