-- ==== Sys2Proof/Machine/Generators.lean ====
section
/-! DEFINITION. The generators (chapter 4): runs, triggers, stops and profile selection. -/

namespace Sys2Proof.Machine

/-- The microseconds of a time unit (R71). -/
def TimeUnit.us : TimeUnit → Nat
  | .us1 => 1
  | .us10 => 10
  | .us100 => 100
  | .ms1 => 1000

/-- Running: the phase is DELAY, PULSE or GAP (section 4.2). -/
def Generator.busy (e : Generator) : Bool := e.phase != .idle

/-- The source table reads the busy level at the end of an event of generator `g` (R8, R91). -/
def State.presentBusy (s : State) (g : Fin 8) : State := s.presentLevel (.generator g) (s.gen g).busy

/-- Copy profile `p` into the active parameters; a pending profile is absent afterwards (R75, R79, R88). -/
def State.activate (s : State) (g : Fin 8) (p : Fin 16) : State :=
  s.setGen g { s.gen g with active := look s.profiles p, activeNumber := p, pendingProfile := none }

/-- Apply the pending profile, if one is present (R75, R79). -/
def State.applyPending (s : State) (g : Fin 8) : State :=
  match (s.gen g).pendingProfile with
  | none => s
  | some p => s.activate g p

/-- A pulse starts (R77): the timer takes the width, and the claim is made. -/
def State.startPulse (s : State) (g : Fin 8) : State :=
  let e := s.gen g
  let e' := { e with phase := .pulse, timer := s.timerFor (e.active.width.toNat * e.active.unit.us) }
  match e.target with
  | none => s.setGen g { e' with shadowed := false }
  | some o =>
    let r := s.claim o g
    r.1.setGen g { e' with shadowed := !r.2 }

/-- Remaining pulses at the start of a run (R75). -/
def Profile.pulses (p : Profile) : Remaining := if p.count = 0 then .unending else .pulses p.count

/-- A trigger that finds the generator IDLE starts a run (R75). -/
def State.startRun (s : State) (g : Fin 8) : State :=
  let t := s.applyPending g
  let e := t.gen g
  let e' := { e with remaining := e.active.pulses, pendingTrigger := false, shadowed := false }
  if e.active.delay = 0 then (t.setGen g e').startPulse g
  else
    t.setGen g { e' with phase := .delay, timer := t.timerFor (e.active.delay.toNat * e.active.unit.us) }

/-- The claim of generator `g` is released, if one was granted (R78, R82, R85). -/
def State.dropClaim (s : State) (g : Fin 8) : State :=
  match (s.gen g).target with
  | none => s
  | some o => s.releaseLine o g

/-- A run is ended: claim released, flags no, remaining 0, phase IDLE, and the entry into IDLE reported (R82, R85).
COMPLETE is not raised. -/
def State.endRun (s : State) (g : Fin 8) : State :=
  let t := s.dropClaim g
  (t.setGen g { t.gen g with phase := .idle, timer := none, shadowed := false, pendingTrigger := false,
                             remaining := .pulses 0 }).idleReport g

/-- One trigger (R75, R81, R82, R83). -/
def State.trigger (s : State) (g : Fin 8) : State :=
  let e := s.gen g
  if e.phase = .idle then s.startRun g
  else
    match e.policy with
    | .ignore => s.count .missedTriggers
    | .restart => (s.endRun g).startRun g
    | .stack =>
      if e.pendingTrigger then s.count .missedTriggers else s.setGen g { e with pendingTrigger := true }

/-- Triggers in succession (R84). -/
def State.triggers (s : State) (g : Fin 8) : Nat → State
  | 0 => s
  | n + 1 => (s.trigger g).triggers g n

/-- FIRE g with a count of `n` (R64, R84): under RESTART the request counts as one trigger. -/
def State.fire (s : State) (g : Fin 8) (n : Nat) : State :=
  (s.triggers g (if (s.gen g).policy = .restart then min n 1 else n)).presentBusy g

/-- A STOP, or a forced-safe stop (R65, R85, R86). -/
def State.stopGen (s : State) (g : Fin 8) : State :=
  if (s.gen g).phase = .idle then s else (s.endRun g).presentBusy g

/-- SELECT g p (R65, R88, R89). -/
def State.select (s : State) (g : Fin 8) (p : Fin 16) : State :=
  if (s.gen g).phase = .idle then s.activate g p
  else s.setGen g { s.gen g with pendingProfile := some p }

/-- The delay has expired (R76); the busy level stays high (R91). -/
def State.delayEnds (s : State) (g : Fin 8) : State := s.startPulse g

/-- The generator goes to GAP (R78). -/
def State.startGap (s : State) (g : Fin 8) (rem : Remaining) : State :=
  let e := s.gen g
  s.setGen g { e with phase := .gap, remaining := rem, shadowed := false,
                      timer := s.timerFor (e.active.gap.toNat * e.active.unit.us) }

/-- The run is complete: COMPLETE, the entry into IDLE, and a held trigger (R78, R83, R91). -/
def State.completeRun (s : State) (g : Fin 8) : State :=
  let held := (s.gen g).pendingTrigger
  let t := (s.setGen g { s.gen g with phase := .idle, timer := none, shadowed := false, pendingTrigger := false,
                                      remaining := .pulses 0 }).presentEdge (.generator g) .rise
  let u := t.idleReport g
  if held then u.startRun g else u

/-- The width has expired (R78). -/
def State.pulseEnds (s : State) (g : Fin 8) : State :=
  let t := s.dropClaim g
  let u :=
    match (s.gen g).remaining with
    | .unending => t.startGap g .unending
    | .pulses n => if 1 < n.toNat then t.startGap g (.pulses (n - 1)) else t.completeRun g
  u.presentBusy g

/-- The gap has expired: a period boundary (R79); the busy level stays high (R91). -/
def State.gapEnds (s : State) (g : Fin 8) : State := (s.applyPending g).startPulse g

/-- Every generator is stopped (R86). -/
def State.stopAll (s : State) : State := forEach (fun g t => t.stopGen g) s

end Sys2Proof.Machine
end

