-- ==== Sys2Proof/Machine/Forced.lean ====
section
/-! DEFINITION. A change of station state, as the output block takes it (R101). -/

namespace Sys2Proof.Machine

/-- The station enters a state: the forced-safe flags follow it, and an entry into a forced-safe condition stops every
generator (R86, R101). -/
def State.enterState (s : State) (st : StationState) : State :=
  let forced := forcedIn st s.bus.safeOnWithdraw
  let t := (s.setBus { s.bus with station := st }).setForced forced
  if forced then t.stopAll else t

end Sys2Proof.Machine
end

