-- ==== Sys2Proof/Config.lean ====
section
/-! DEFINITION. The free values: what the manual leaves open, as constants without a body. -/

namespace Sys2Proof.Config

/-- At a beacon interval expiry that gives a LOST report to the source table and to the acceptance table
(R154), whether the source table takes its reports before the acceptance table does.
FREE VALUE, applied to `State.freeCount`; log entry 9. -/
opaque sourceTableFirst : Nat → Bool

/-- The rank of a generator among those that take an autostart trigger at one READY (R93): a lower rank goes
first. FREE VALUE, applied to `State.freeCount`; log entry 10. -/
opaque autostartRank : Nat → Fin 8 → Nat

/-- Bytes 1 and 2 of the SOURCE state page (section 9.2.1) for an entry whose mode code is 5–7, which only an
entry with origin none can hold. FREE VALUE, applied to the mode code; log entry 11. -/
opaque reservedModeBytes : BitVec 3 → Byte × Byte

end Sys2Proof.Config
end

