-- ==== Sys2Proof/Machine/Counters.lean ====
section
/-! DEFINITION. The event counters (section 5.5): COUNT, RESET, TERMINAL events and the at-terminal level. -/

namespace Sys2Proof.Machine

/-- The at-terminal level: high while the value equals the terminal (R9). -/
def Counter.atTerminal (c : Counter) : Bool := c.value = c.terminal

/-- How many TERMINAL events a COUNT of `n` raises (R104, R105). A terminal of 0, which validation refuses, raises
none (log entry 27). -/
def Counter.terminals (c : Counter) (n : Nat) : Nat :=
  if c.stick then (if c.value.toNat < c.terminal.toNat ∧ c.terminal.toNat ≤ c.value.toNat + n then 1 else 0)
  else (c.value.toNat + n) / c.terminal.toNat

/-- The value after a COUNT of `n` (R104, R105). -/
def Counter.counted (c : Counter) (n : Nat) : BitVec 16 :=
  if c.stick then BitVec.ofNat 16 (min (c.value.toNat + n) c.terminal.toNat)
  else BitVec.ofNat 16 ((c.value.toNat + n) % c.terminal.toNat)

/-- `n` TERMINAL events of counter `c` reach the source table, one after another (R9, R104). -/
def State.terminalEvents (s : State) (c : Fin 4) (n : Nat) : State :=
  Nat.iterate (fun t => t.presentEdge (.counter c) .rise) n s

/-- COUNT c with a count of `n` (R67, R104, R105). -/
def State.countBy (s : State) (c : Fin 4) (n : Nat) : State :=
  let k := s.counter c
  let k' := { k with value := k.counted n }
  ((s.setCounter c k').terminalEvents c (k.terminals n)).presentLevel (.counter c) k'.atTerminal

/-- RESET c (R67, R106). -/
def State.resetCounter (s : State) (c : Fin 4) : State :=
  let k' := { s.counter c with value := 0 }
  (s.setCounter c k').presentLevel (.counter c) k'.atTerminal

end Sys2Proof.Machine
end

