-- ==== Sys2Proof/Machine/Dispatcher.lean ====
section
/-! DEFINITION. The action dispatcher (chapter 3): snapshots, actions and the dispatch of EDGE, HOLD and CLEAR, with
the purge (R50). -/

namespace Sys2Proof.Machine

/-! ## Matching (R53, R55, R56) -/

/-- The notices that reach the dispatcher (section 3.2). -/
inductive Notice
  | edge
  | hold
  | clear
  deriving DecidableEq, Repr

/-- Whether the kinds of an entry accept a notice's kind (R55). -/
def SubKinds.accepts (k : SubKinds) (n : Notice) : Bool :=
  match k, n with
  | .edge, .edge | .hold, .hold | .hold, .clear | .either, _ => true
  | .edge, .hold | .edge, .clear | .hold, .edge | .reserved, _ => false

/-- Whether an entry is enabled (R55). -/
def State.groupOn (s : State) (g : SubGroup) : Bool :=
  match g with
  | .always => true
  | .member m => look s.groups m
  | .reserved _ => false

/-- Whether subscription `k` matches a notice (R53, R55). -/
def State.subMatches (s : State) (n : Notice) (sender : Addr) (ch : Channel) (k : Fin 32) : Bool :=
  let e := s.sub k
  e.channel != 0 && e.channel = ch && (e.sender = none || e.sender = some sender) && e.kinds.accepts n &&
    s.groupOn e.group

/-- The snapshot of a notice, in ascending index (R56). -/
def State.snapshot (s : State) (n : Notice) (sender : Addr) (ch : Channel) : List (Fin 32) :=
  (indices 32).filter (fun k => s.subMatches n sender ch k)

/-! ## Actions (R64–R69) -/

/-- A target of four values: a counter or a group. -/
def target4 (t : Fin 8) : Option (Fin 4) := if h : t.val < 4 then some ⟨t.val, h⟩ else none

/-- One action with the count it carries; SELECT selects profile `sel` (R64–R68). -/
def State.runAction (s : State) (a : Action) (sel : Option (Fin 16)) (n : Nat) : State :=
  match a.target with
  | none => s
  | some t =>
    match a.kind with
    | .fire => s.fire t n
    | .stop => s.stopGen t
    | .select =>
      match sel with
      | some p => s.select t p
      | none => s
    | .set => s.setStatic t true
    | .clear => s.setStatic t false
    | .toggle => s.toggleStatic t n
    | .count =>
      match target4 t with
      | some c => s.countBy c n
      | none => s
    | .reset =>
      match target4 t with
      | some c => s.resetCounter c
      | none => s
    | .enable =>
      match target4 t with
      | some m => s.setGroup m true
      | none => s
    | .disable =>
      match target4 t with
      | some m => s.setGroup m false
      | none => s
    | .none | .reserved _ => s

/-- The action of subscription `k` with a count (R58, R59). -/
def State.act (s : State) (k : Fin 32) (n : Nat) : State := s.runAction (s.sub k).action (s.sub k).param n

/-- The clear action of subscription `k`: count 1, and SELECT names the generator's initial profile (R69). -/
def State.clearAct (s : State) (k : Fin 32) : State :=
  let a := (s.sub k).clearAction
  s.runAction a (a.target.map (fun g => (s.gen g).initial)) 1

/-! ## Dispatch (R57–R63) -/

/-- The dispatcher is inert in CONFLICT (R57). -/
def State.inert (s : State) : Bool := s.bus.station = .conflict

/-- An EDGE at the dispatcher, by arrival or self-delivery (R58, R62). -/
def State.dispatchEdge (s : State) (sender : Addr) (ch : Channel) (n : Nat) : State :=
  if s.inert then s
  else (s.snapshot .edge sender ch).foldl (fun t k => t.act k n) s

/-- One entry of the snapshot of a HOLD (R43, R59, R60): a duty entry acts when the acceptance table lets it, an entry
with policy NONE when the re-announce flag is clear. -/
def State.holdStep (reannounce : Bool) (rec : Option (Fin 8)) (s : State) (k : Fin 32) : State :=
  if (s.sub k).isDuty then
    match rec with
    | some j => (s.act k 1).dutyRan j k
    | none => s
  else if reannounce then s
  else s.act k 1

/-- A HOLD that arrives at the dispatcher (R59). -/
def State.dispatchHold (s : State) (sender : Addr) (ch : Channel) (k : InstNo) (reannounce : Bool) : State :=
  if s.inert then s
  else
    let snap := s.snapshot .hold sender ch
    let r := s.takeHold sender ch k snap
    let t := snap.foldl (State.holdStep reannounce r.2) r.1
    match r.2 with
    | some j => t.testRecord j
    | none => t

/-- A HOLD of the station itself, self-delivered: every entry as one with policy NONE (R62). -/
def State.selfHold (s : State) (ch : Channel) (reannounce : Bool) : State :=
  if s.inert then s
  else if reannounce then s
  else (s.snapshot .hold s.address ch).foldl (fun t k => t.act k 1) s

/-- The clear actions of a CLEAR, by arrival or self-delivery (R61, R62). -/
def State.dispatchClear (s : State) (sender : Addr) (ch : Channel) : State :=
  if s.inert then s
  else (s.snapshot .clear sender ch).foldl (fun t k => t.clearAct k) s

/-- A CLEAR that arrives: clear actions, then the acceptance table (R48, R61). -/
def State.takeClear (s : State) (sender : Addr) (ch : Channel) (k : InstNo) : State :=
  if s.inert then s else (s.dispatchClear sender ch).closeRecord sender ch k

/-! ## The purge (R50) -/

/-- The clear actions of the duties of a record, in duty order; none in CONFLICT (R50, R69). -/
def State.purgeActions (s : State) (duties : List Duty) : State :=
  if s.inert then s else duties.foldl (fun t d => t.clearAct d.sub) s

/-- The record in slot `j` is purged, if its sender is `a` (R50). -/
def State.purgeSlot (s : State) (a : Addr) (j : Fin 8) : State :=
  match s.slot j with
  | none => s
  | some r => if r.sender = a then (s.purgeActions r.duties).removeRecord j else s

/-- Every record of the sender `a` is purged, in ascending slot index (R50). -/
def State.purge (s : State) (a : Addr) : State := forEach (fun j t => t.purgeSlot a j) s

end Sys2Proof.Machine
end

