-- ==== Sys2Proof/Machine/Frames.lean ====
section
/-! DEFINITION. The frame on the trigger bus (chapter 6): its fields and cells, the CRC, the layout of the
payloads and the receiver's verdict. -/

namespace Sys2Proof.Machine

/-- A frame with the fields R126 hands on; class, payload length and payload follow from `msg` (R118, R119). -/
structure Frame where
  standing : BitVec 4
  sender : Addr
  seq : Seq
  channel : Channel
  msg : Msg
  deriving DecidableEq, Repr

/-- The code of a kind (R118). -/
def kindCode : Kind → BitVec 3
  | .edge => 0
  | .hold => 1
  | .clear => 2
  | .release => 3
  | .presence => 4
  | .query => 5
  | .report => 6
  | .join => 7

/-- The class of a kind (R118): HOLD, CLEAR and RELEASE are urgent. -/
def kindUrgent : Kind → Bool
  | .hold | .clear | .release => true
  | .edge | .presence | .query | .report | .join => false

/-- The payload length of a kind, in bytes (R118). -/
def kindLength : Kind → Nat
  | .edge | .hold | .clear | .presence => 1
  | .release | .join => 2
  | .query => 3
  | .report => 6

/-- The channel R118 allows a kind: 1–255 for EDGE, HOLD, CLEAR and RELEASE, 0 for the others. -/
def kindChannelOk (k : Kind) (ch : Channel) : Bool :=
  match k with
  | .edge | .hold | .clear | .release => ch != 0
  | .presence | .query | .report | .join => ch == 0

/-- Direction as a bit: 1 RISE, 0 FALL (R119). -/
def dirBit : Direction → Bool
  | .rise => true
  | .fall => false

/-- The direction of a bit (R119). -/
def bitDir : Bool → Direction
  | true => .rise
  | false => .fall

/-- The payload bytes of a message, spare bits 0 (R119). -/
def payloadBytes : Msg → List Byte
  | .edge n d => [n ++ BitVec.ofBool (dirBit d) ++ 0#3]
  | .hold k re => [k ++ BitVec.ofBool re ++ 0#3]
  | .clear k => [k ++ 0#4]
  | .release a k => [a ++ 0#3, k ++ 0#4]
  | .presence f c h => [BitVec.ofBool f ++ c ++ BitVec.ofBool h ++ 0#3]
  | .query a item index => [a ++ 0#3, item, index]
  | .report a item index d0 d1 d2 => [a ++ 0#3, item, index, d0, d1, d2]
  | .join fresh sig => [BitVec.ofBool fresh ++ sig.extractLsb' 8 7, sig.extractLsb' 0 8]

/-- The payload fields of a kind, spare bits disregarded (R119); none when the length is not the kind's (R118). -/
def payloadMsg (k : BitVec 3) (p : List Byte) : Option Msg :=
  match k.toNat, p with
  | 0, [b] => some (.edge (b.extractLsb' 4 4) (bitDir (b.getLsbD 3)))
  | 1, [b] => some (.hold (b.extractLsb' 4 4) (b.getLsbD 3))
  | 2, [b] => some (.clear (b.extractLsb' 4 4))
  | 3, [b, c] => some (.release (b.extractLsb' 3 5) (c.extractLsb' 4 4))
  | 4, [b] => some (.presence (b.getLsbD 7) (b.extractLsb' 4 3) (b.getLsbD 3))
  | 5, [b, item, index] => some (.query (b.extractLsb' 3 5) item index)
  | 6, [b, item, index, d0, d1, d2] => some (.report (b.extractLsb' 3 5) item index d0 d1 d2)
  | 7, [b, c] => some (.join (b.getLsbD 7) (b.extractLsb' 0 7 ++ c))
  | _, _ => none

/-- A frame of the format R121 asks for: channel, repeat count and station state code (class and length are
those of the kind by construction). -/
def Frame.formatOk (f : Frame) : Bool :=
  kindChannelOk f.msg.kind f.channel &&
    match f.msg with
    | .edge n _ => n != 0
    | .presence _ c _ => c.toNat < 6
    | .hold _ _ | .clear _ | .release _ _ | .query _ _ _ | .report _ _ _ _ _ _ | .join _ _ => true

/-! ## Cells and CRC -/

/-- The low `w` bits of a number, most significant first (section 6.4). -/
def natBits : Nat → Nat → List Bool
  | 0, _ => []
  | w + 1, n => n.testBit w :: natBits w n

/-- The number that bits spell, most significant first. -/
def bitsNat (l : List Bool) : Nat :=
  l.foldl (fun acc b => 2 * acc + b.toNat) 0

/-- The cells of a field, most significant bit first. -/
def fieldBits {w : Nat} (x : BitVec w) : List Bool := natBits w x.toNat

/-- One step of the CRC register (R117). -/
def crcStep (reg : BitVec 16) (bit : Bool) : BitVec 16 :=
  if bit = reg.msb then reg <<< 1 else (reg <<< 1) ^^^ 0x1021#16

/-- The CRC register after a run of bits (R117). -/
def crcBits (reg : BitVec 16) (l : List Bool) : BitVec 16 := l.foldl crcStep reg

/-- The CRC register after a run of bytes, each most significant bit first (R117, R179). -/
def crcBytes (reg : BitVec 16) (l : List Byte) : BitVec 16 :=
  l.foldl (fun r b => crcBits r (fieldBits b)) reg

/-- The register before the first bit (R117). -/
def crcStart : BitVec 16 := 0xFFFF#16

/-- The cells of a frame from its class bit to the last bit of its payload (section 6.4, R116). -/
def Frame.bodyBits (f : Frame) : List Bool :=
  [!kindUrgent f.msg.kind] ++ fieldBits f.standing ++ fieldBits f.sender ++ fieldBits (kindCode f.msg.kind) ++
    fieldBits f.seq ++ fieldBits f.channel ++ natBits 3 (kindLength f.msg.kind) ++
    (payloadBytes f.msg).flatMap fieldBits

/-- The cells of a frame from its class bit to the end of its CRC field (R116, R117). -/
def Frame.cells (f : Frame) : List Bool :=
  f.bodyBits ++ fieldBits (crcBits crcStart f.bodyBits)

/-- The cells that the sender of a frame sends in its ACK slot and its NAK slot: 1 in both (R111, R125). -/
def slotCells : List Bool := [true, true]

/-- The cells of a frame as its sender drives them, from the class bit to the NAK slot (R111, R125). -/
def Frame.sentCells (f : Frame) : List Bool := f.cells ++ slotCells

/-- The fields as a receiver takes them out of the cells, before any check (R116). -/
structure RawFrame where
  normalClass : Bool
  standing : BitVec 4
  sender : Addr
  kind : BitVec 3
  seq : Seq
  channel : Channel
  payload : List Byte
  crcOk : Bool
  deriving DecidableEq, Repr

/-- Bytes out of cells, eight at a time. -/
def cellBytes : Nat → List Bool → List Byte
  | 0, _ => []
  | n + 1, l => BitVec.ofNat 8 (bitsNat (l.take 8)) :: cellBytes n (l.drop 8)

/-- The payload length the cells carry in cells 28–30 (R116). -/
def cellsLength (cells : List Bool) : Nat := bitsNat ((cells.drop 27).take 3)

/-- The fields in the cells, placed by the length field (R116); none when the cells end before the CRC field does. -/
def readCells (cells : List Bool) : Option RawFrame :=
  let n := cellsLength cells
  if cells.length < 46 + 8 * n then none
  else
    let field (at_ w : Nat) : Nat := bitsNat ((cells.drop at_).take w)
    some
      { normalClass := field 0 1 = 1
        standing := BitVec.ofNat 4 (field 1 4)
        sender := BitVec.ofNat 5 (field 5 5)
        kind := BitVec.ofNat 3 (field 10 3)
        seq := BitVec.ofNat 6 (field 13 6)
        channel := BitVec.ofNat 8 (field 19 8)
        payload := cellBytes n (cells.drop 30)
        crcOk := crcBits crcStart (cells.take (30 + 8 * n)) = BitVec.ofNat 16 (field (30 + 8 * n) 16) }

/-- A receiver's verdict on a frame (R121), or that the frame never reached the end of its CRC field (R114). -/
inductive Verdict
  | correct (f : Frame)
  | crcError
  | formatError
  | incomplete
  deriving DecidableEq, Repr

/-- The verdict on fields: CRC first, then format (R121). -/
def RawFrame.verdict (r : RawFrame) : Verdict :=
  if !r.crcOk then .crcError
  else
    match payloadMsg r.kind r.payload with
    | none => .formatError
    | some m =>
      let f : Frame := { standing := r.standing, sender := r.sender, seq := r.seq, channel := r.channel, msg := m }
      if r.normalClass == kindUrgent m.kind then .formatError
      else if f.formatOk then .correct f
      else .formatError

/-- The verdict on the cells of a frame (R116, R117, R121). -/
def verdict (cells : List Bool) : Verdict :=
  match readCells cells with
  | none => .incomplete
  | some r => r.verdict

/-- The full length of a frame in cells, from its first cell to its NAK slot (R116). -/
def Frame.cellCount (f : Frame) : Nat := 48 + 8 * kindLength f.msg.kind

end Sys2Proof.Machine
end

