-- ==== Sys2Proof/Machine/Reports.lean ====
section
/-! DEFINITION. The data of reports (section 9.2.1), and the summary of PRESENCE (R119). -/

namespace Sys2Proof.Machine

/-- Three data bytes of a REPORT. -/
structure ReportData where
  d0 : Byte
  d1 : Byte
  d2 : Byte
  deriving DecidableEq, Repr

/-- A bit. -/
def bit (b : Bool) : BitVec 1 := BitVec.ofBool b

/-- The first four flags of a list, the first in bit 3. -/
def nibble (l : List Bool) : BitVec 4 :=
  bit (l.getD 0 false) ++ bit (l.getD 1 false) ++ bit (l.getD 2 false) ++ bit (l.getD 3 false)

/-- Eight flags, number n in bit n. -/
def octet (f : Fin 8 → Bool) : Byte :=
  bit (f 7) ++ bit (f 6) ++ bit (f 5) ++ bit (f 4) ++ bit (f 3) ++ bit (f 2) ++ bit (f 1) ++ bit (f 0)

/-! ## Codes -/

/-- The station state code (R119). -/
def StationState.code : StationState → BitVec 3
  | .offline => 0
  | .listening => 1
  | .joining => 2
  | .joined => 3
  | .withdrawn => 4
  | .conflict => 5

/-- The mode code. -/
def Mode.code : Mode → BitVec 3
  | .edgeRise => 0
  | .edgeFall => 1
  | .edgeBoth => 2
  | .holdHigh => 3
  | .holdLow => 4
  | .reserved c => c

/-- The origin code. -/
def Origin.code : Origin → BitVec 5
  | .input n => BitVec.ofNat 5 n.val
  | .generator g => BitVec.ofNat 5 (16 + g.val)
  | .counter c => BitVec.ofNat 5 (24 + c.val)
  | .none => 31

/-- The edge state code. -/
def EdgeState.code : EdgeState → BitVec 2
  | .idle => 0
  | .owed => 1
  | .listed => 2
  | .sending => 3

/-- The hold state code. -/
def HoldState.code : HoldState → BitVec 3
  | .quiet => 0
  | .announcing => 1
  | .awaiting => 2
  | .orphaned => 3
  | .satisfied => 4
  | .ending => 5

/-- The record state code. -/
def RecordState.code : RecordState → BitVec 3
  | .acting => 0
  | .releaseOwed => 1
  | .releaseListed => 2
  | .releaseSending => 3
  | .released => 4

/-- The generator phase code. -/
def GenPhase.code : GenPhase → BitVec 2
  | .idle => 0
  | .delay => 1
  | .pulse => 2
  | .gap => 3

/-- The roster state code. -/
def Presence.code : Presence → BitVec 2
  | .unknown => 0
  | .present => 1
  | .lost => 2
  | .self => 3

/-! ## Pages -/

/-- SUMMARY, and the replies of the maintenance items. -/
def State.summaryData (s : State) : ReportData :=
  { d0 := s.bus.station.code ++ s.loader.reason ++ bit s.anyHold ++ bit s.faults.nonEmpty
    d1 := s.faults.byte
    d2 := if s.loader.reason = 4 then s.loader.failTable ++ s.loader.failIndex else 0 }

/-- SOURCE, state page; bytes 1 and 2 of an entry with a reserved mode code are a free value (log entry 11). -/
def SourceEntry.stateData (e : SourceEntry) : ReportData :=
  let d0 : Byte := e.mode.code ++ e.origin.code
  match e.mode with
  | .edgeRise | .edgeFall | .edgeBoth =>
    { d0 := d0, d1 := e.edgeState.code ++ bit (dirBit e.lastDir) ++ 0#1 ++ e.pendingCount, d2 := e.nextCount ++ 0#4 }
  | .holdHigh | .holdLow =>
    { d0 := d0
      d1 := e.holdState.code ++ bit e.condition ++ e.inst
      d2 := e.reannounces ++ bit e.announced ++ bit e.releaseTimer.isSome ++ bit e.repeatTimer.isSome ++ 0#3 }
  | .reserved c => { d0 := d0, d1 := (Config.reservedModeBytes c).1, d2 := (Config.reservedModeBytes c).2 }

/-- One field of the releases page: a present bit and an address. -/
def releaseField (o : Option Addr) : BitVec 6 :=
  match o with
  | some a => 1#1 ++ a
  | none => 0

/-- SOURCE, releases page. -/
def SourceEntry.releasesData (e : SourceEntry) : ReportData :=
  let f (n : Nat) := releaseField (e.received[n]?)
  let w : BitVec 24 := f 0 ++ f 1 ++ f 2 ++ f 3
  { d0 := w.extractLsb' 16 8, d1 := w.extractLsb' 8 8, d2 := w.extractLsb' 0 8 }

/-- The position of slot `j` in the age order (section 9.2.1). -/
def State.agePosition (s : State) (j : Fin 8) : Nat := s.ageOrder.idxOf j

/-- ACCEPT, record page. -/
def State.recordData (s : State) (j : Fin 8) : ReportData :=
  match s.slot j with
  | none => { d0 := 0, d1 := 0, d2 := 0 }
  | some r =>
    { d0 := 1#1 ++ r.state.code ++ r.inst, d1 := r.channel, d2 := r.sender ++ BitVec.ofNat 3 (s.agePosition j) }

/-- ACCEPT, duty page. -/
def State.dutyData (s : State) (j : Fin 8) : ReportData :=
  match s.slot j with
  | none => { d0 := 0, d1 := 0, d2 := 0 }
  | some r =>
    { d0 := BitVec.ofNat 2 (r.duties.length - 1) ++ (if r.releaseListed then 1#2 else 0#2) ++
        nibble (r.duties.map (fun d => d.done))
      d1 := nibble (r.duties.map (fun d => d.awaited.isSome)) ++ nibble (r.duties.map (fun d => d.awaiting))
      d2 := 0 }

/-- GENERATOR. With no profile pending, bits 3–0 of byte 1 are sent 0, which the layout does not say (DESIGN CHOICE; log
entry 32). -/
def Generator.data (e : Generator) : ReportData :=
  { d0 := e.phase.code ++ bit e.pendingTrigger ++ bit e.shadowed ++ BitVec.ofNat 4 e.activeNumber.val
    d1 := bit e.pendingProfile.isSome ++ bit (e.remaining = .unending) ++ 0#2 ++
      BitVec.ofNat 4 (match e.pendingProfile with
        | some p => p.val
        | none => 0)
    d2 := match e.remaining with
      | .pulses n => n
      | .unending => 0 }

/-- COUNTER, value page. -/
def Counter.valueData (c : Counter) : ReportData :=
  { d0 := c.value.extractLsb' 8 8, d1 := c.value.extractLsb' 0 8, d2 := bit c.stick ++ bit c.atTerminal ++ 0#6 }

/-- COUNTER, terminal page. -/
def Counter.terminalData (c : Counter) : ReportData :=
  { d0 := c.terminal.extractLsb' 8 8, d1 := c.terminal.extractLsb' 0 8, d2 := bit c.stick ++ 0#7 }

/-- ROSTER, entry page. With no last sequence, byte 1 is sent 0, which the layout does not say (DESIGN CHOICE; log entry
32). -/
def RosterEntry.entryData (e : RosterEntry) : ReportData :=
  { d0 := e.state.code ++ e.silence ++ bit e.lastSeq.isSome ++ bit e.signature.isSome ++ 0#2
    d1 := 0#2 ++ (e.lastSeq.getD 0)
    d2 := e.freshJoins }

/-- ROSTER, signature page. With no signature, its 15 bits are sent 0, which the layout does not say (DESIGN CHOICE; log
entry 32). -/
def RosterEntry.signatureData (e : RosterEntry) : ReportData :=
  let sig : Signature := e.signature.getD 0
  { d0 := bit e.signature.isSome ++ sig.extractLsb' 8 7, d1 := sig.extractLsb' 0 8, d2 := 0 }

/-- OUTPUTS, levels page. -/
def State.levelsData (s : State) : ReportData :=
  { d0 := octet s.shown, d1 := octet (fun o => (s.out o).static), d2 := octet (fun o => (s.out o).safe) }

/-- One field of an owners page. -/
def State.ownerField (s : State) (o : Fin 8) : BitVec 4 :=
  match (s.out o).owner with
  | some g => 1#1 ++ BitVec.ofNat 3 g.val
  | none => 0

/-- OUTPUTS, owners of OUT0–OUT3; every line has the same forced-safe flag (R101). -/
def State.ownersLow (s : State) : ReportData :=
  { d0 := s.ownerField 0 ++ s.ownerField 1, d1 := s.ownerField 2 ++ s.ownerField 3, d2 := bit (s.out 0).forcedSafe ++ 0#7 }

/-- OUTPUTS, owners of OUT4–OUT7. -/
def State.ownersHigh (s : State) : ReportData :=
  { d0 := s.ownerField 4 ++ s.ownerField 5, d1 := s.ownerField 6 ++ s.ownerField 7, d2 := bit (s.out 4).forcedSafe ++ 0#7 }

/-- GROUPS. -/
def State.groupsData (s : State) : ReportData :=
  { d0 := 0#4 ++ nibble [look s.groups 3, look s.groups 2, look s.groups 1, look s.groups 0], d1 := 0, d2 := 0 }

/-! ## Items (R168) -/

/-- How many indices an item has: 0 up to one less (R168). -/
def itemRange (item : Byte) : Nat :=
  match item.toNat with
  | 0 => 1
  | 1 => 32
  | 2 => 16
  | 3 => 8
  | 4 => 8
  | 5 => 64
  | 6 => 10
  | 7 => 3
  | 8 => 1
  | 9 => 1
  | 10 => 1
  | _ => 0

/-- An entry of a table by a number taken modulo the table's size, as a page index gives it. -/
def entryIdx (n : Nat) (h : 0 < n) (index : Byte) : Fin n := ⟨index.toNat % n, Nat.mod_lt _ h⟩

/-- The data of an item and index in range, as the blocks stand now (R169, section 9.2.1). -/
def State.itemData (s : State) (item index : Byte) : ReportData :=
  match item.toNat with
  | 1 =>
    let e := s.source (entryIdx 16 (by decide) index)
    if index.toNat < 16 then e.stateData else e.releasesData
  | 2 =>
    let j := entryIdx 8 (by decide) index
    if index.toNat < 8 then s.recordData j else s.dutyData j
  | 3 => (s.gen (entryIdx 8 (by decide) index)).data
  | 4 =>
    let c := s.counter (entryIdx 4 (by decide) index)
    if index.toNat < 4 then c.valueData else c.terminalData
  | 5 =>
    let e := look s.roster (entryIdx 32 (by decide) index)
    if index.toNat < 32 then e.entryData else e.signatureData
  | 6 => { d0 := look s.tallies (entryIdx 10 (by decide) index), d1 := 0, d2 := 0 }
  | 7 => if index.toNat = 0 then s.levelsData else if index.toNat = 1 then s.ownersLow else s.ownersHigh
  | 8 => s.groupsData
  | _ => s.summaryData

/-- The data of a refusal (R168). -/
def refusalData (item : Byte) (reason : BitVec 3) : ReportData := { d0 := item, d1 := 0#5 ++ reason, d2 := 0 }

/-- The payload of the REPORT of a reply, as captured now (R166, R168, R169). -/
def State.reportMsg (s : State) (r : Reply) : Msg :=
  match r.answer with
  | .data =>
    let d := s.itemData r.item r.index
    .report r.querier r.item r.index d.d0 d.d1 d.d2
  | .refused reason =>
    let d := refusalData r.item reason
    .report r.querier 0xFF r.index d.d0 d.d1 d.d2

/-- The payload of PRESENCE, as captured now (R119, R133). -/
def State.presenceMsg (s : State) : Msg := .presence s.faults.nonEmpty s.bus.station.code s.anyHold

end Sys2Proof.Machine
end

