-- ==== Sys2Proof/Machine/Responder.lean ====
section
/-! DEFINITION. The query responder (sections 9.1–9.3). -/

namespace Sys2Proof.Machine

/-- The refusal reason of a QUERY, by the checks of R168 in order; none when it passes every check. -/
def State.refusal (s : State) (sender : Addr) (item index : Byte) : Option (BitVec 3) :=
  if 10 < item.toNat then some 1
  else if itemRange item ≤ index.toNat then some 2
  else if item = 9 ∨ item = 10 then
    match s.maintenance with
    | none => some 4
    | some m => if m = sender then none else some 3
  else none

/-- FAULT-RESET, carried out (R171). -/
def State.faultResetNow (s : State) : State :=
  { s with
    faults := s.faults.clearLatched
    tallies := Vector.replicate 10 0
    roster := s.roster.map (fun e => { e with freshJoins := 0 }) }

/-- The reply that a QUERY sets (R164). -/
def State.replyTo (s : State) (sender : Addr) (item index : Byte) : Reply :=
  let refused := s.refusal sender item index
  { querier := sender, item := item, index := index
    answer := match refused with
      | none => .data
      | some r => .refused r
    restart := refused = none ∧ item = 10
    state := .owed }

/-- A reply is SENDING: a further QUERY is dropped (R165). -/
def State.replySending (s : State) : Bool :=
  match s.reply with
  | some r => r.state = .sending
  | none => false

/-- A QUERY at the responder (R164, R165). -/
def State.takeQuery (s : State) (sender : Addr) (item index : Byte) : State :=
  if s.replySending then s.count .queriesDropped
  else
    let t := if s.refusal sender item index = none ∧ item = 9 then s.faultResetNow else s
    (t.withdrawEntry .responder).setReply (some (s.replyTo sender item index))

end Sys2Proof.Machine
end

