-- ==== Sys2Proof/Machine/Transmit.lean ====
section
/-! DEFINITION. The transmit side (sections 7.1–7.3): demands and admission, the start of a contention, wins, returns
to WAITING and conclusions. -/

namespace Sys2Proof.Machine

/-! ## Demands (R129) and admission (R130) -/

/-- The frame an acceptance record owes (R46). -/
def State.recordDemand (s : State) (j : Fin 8) : Option TxEntry :=
  match s.slot j with
  | some r =>
    if r.state = .releaseOwed then
      some (TxEntry.fresh .release r.channel (some (.release r.sender r.inst)) (.record j))
    else none
  | none => none

/-- The HOLD or CLEAR a hold-mode entry owes (R20, R27, R29, R37). The re-announce flag is set when the instance has
been re-announced (R25, R29). -/
def State.holdDemand (s : State) (i : Fin 16) : Option TxEntry :=
  let e := s.source i
  match e.isHold, e.holdState with
  | true, .announcing =>
    some (TxEntry.fresh .hold e.channel (some (.hold e.inst (e.reannounces != 0))) (.source i))
  | true, .ending => some (TxEntry.fresh .clear e.channel (some (.clear e.inst)) (.source i))
  | _, _ => none

/-- The EDGE an edge-mode entry owes (R13). -/
def State.edgeDemand (s : State) (i : Fin 16) : Option TxEntry :=
  if (s.source i).owesEdge then some (TxEntry.fresh .edge (s.source i).channel none (.source i)) else none

/-- The signature a JOIN carries (R181). -/
def State.ownSignature (s : State) : Signature := s.loader.signature.getD 0

/-- The JOIN the beacon owes, with the fresh flag and the signature as they stand (R130, R141). -/
def State.joinDemand (s : State) : Option TxEntry :=
  if s.beacon.owesJoin then some (TxEntry.fresh .join 0 (some (.join s.bus.fresh s.ownSignature)) .beacon) else none

/-- The REPORT the responder owes (R164). -/
def State.reportDemand (s : State) : Option TxEntry :=
  match s.reply with
  | some r => if r.state = .owed then some (TxEntry.fresh .report 0 none .responder) else none
  | none => none

/-- The PRESENCE the beacon owes (R158). -/
def State.presenceDemand (s : State) : Option TxEntry :=
  if s.beacon.owesPresence then some (TxEntry.fresh .presence 0 none .beacon) else none

/-- The demands in the order of R129. -/
def State.demands (s : State) : List TxEntry :=
  (indices 8).filterMap s.recordDemand ++ (indices 16).filterMap s.holdDemand ++ s.joinDemand.toList ++
    (indices 16).filterMap s.edgeDemand ++ s.reportDemand.toList ++ s.presenceDemand.toList

/-- Whether the station state admits a kind of frame (R130). -/
def StationState.admits (st : StationState) (k : Kind) : Bool :=
  match st with
  | .joined => true
  | .joining => k = .join
  | .offline | .listening | .withdrawn | .conflict => false

/-- The producer of an entry is told of its admission (R13, R46, R130, R166). -/
def State.tellAdmitted (s : State) (e : TxEntry) : State :=
  match e.producer with
  | .record j => s.releaseAdmitted j
  | .source i => if e.kind = .edge then s.setSource i { s.source i with edgeState := .listed } else s
  | .responder => s.setReply (s.reply.map (fun r => { r with state := .listed }))
  | .beacon =>
    if e.kind = .join then s.setBeacon { s.beacon with owesJoin := false }
    else s.setBeacon { s.beacon with owesPresence := false }

/-- One demand at the arbiter: admitted when a slot is free, the station state permits it and its producer has no
entry in the list (R128, R129, R130). -/
def State.admitOne (s : State) (e : TxEntry) : State :=
  if s.tx.length < 8 && s.bus.station.admits e.kind && !hasEntry e.producer s.tx then
    (s.setTx (admitEntry e s.tx)).tellAdmitted e
  else s

/-- The arbiter takes the owed producers one at a time in the order of R129 (R130). -/
def State.admitOwed (s : State) : State := s.demands.foldl State.admitOne s

/-! ## The start of a contention (R132) -/

/-- A station in JOINING or JOINED takes part in a contention (R132). -/
def StationState.contends (st : StationState) : Bool := st = .joining || st = .joined

/-- The station contends with its WAITING head, if it may (R132). -/
def State.offerHead (s : State) : State :=
  match s.tx with
  | [] => s
  | h :: t =>
    if s.bus.station.contends && !h.onBus && s.bus.activity = .idle then
      (s.setTx ({ h with onBus := true } :: t)).setBus
        { s.bus with activity := .contending s.bus.standing, phase := .receiving, stopped := false }
    else s

/-- With the bus idle, a WAITING head begins the first cell (R132). -/
def State.offerIfIdle (s : State) : State := if s.bus.phase = .busIdle then s.offerHead else s

/-- The end of a command that raises a demand or frees a slot: admission, and then the start of a contention if the
bus is idle (R130, R132; log entry 8). -/
def State.settle (s : State) : State := s.admitOwed.offerIfIdle

/-! ## Wins (R133, R134, R158, R159) -/

/-- The payload of an entry after its first win: EDGE, REPORT and PRESENCE are captured, the others were fixed at
admission (R133). -/
def State.capture (s : State) (e : TxEntry) : Option Msg :=
  match e.kind, e.producer with
  | .edge, .source i => some (s.source i).edgeMsg
  | .report, _ => s.reply.map s.reportMsg
  | .presence, _ => some s.presenceMsg
  | _, _ => e.msg

/-- The instance a payload carries, if it is a HOLD. -/
def msgHoldInst : Msg → Option InstNo
  | .hold k _ => some k
  | .edge _ _ | .clear _ | .release _ _ | .presence _ _ _ | .query _ _ _ | .report _ _ _ _ _ _ | .join _ _ => none

/-- The producer of an entry is told of its first win (R14, R20, R46, R133, R166). -/
def State.tellWon (s : State) (e : TxEntry) : State :=
  match e.producer with
  | .record j => if e.unwanted then s else s.releaseWon j
  | .source i =>
    match e.kind with
    | .edge => s.edgeWon i
    | .hold =>
      match e.msg.bind msgHoldInst with
      | some k => s.holdWon i k
      | none => s
    | .clear | .release | .presence | .query | .report | .join => s
  | .responder => s.setReply (s.reply.map (fun r => { r with state := .sending }))
  | .beacon => s

/-- The head at a win (R133): at the first win it takes its sequence number and payload. -/
def State.headWon (s : State) (e : TxEntry) (rest : List TxEntry) : State :=
  if e.beenOnBus then s
  else
    ((s.setTx ({ e with seq := some s.bus.sequence, beenOnBus := true, msg := s.capture e } :: rest)).setBus
      { s.bus with sequence := s.bus.sequence + 1 }).tellWon e

/-- The beacon at a win: the won flag, and the PRESENCE that another entry's win drops (R158, R159). -/
def State.beaconWon (s : State) (k : Kind) : State :=
  if k = .presence then s.setBeacon { s.beacon with won := true }
  else
    (s.setBeacon { s.beacon with won := true, owesPresence := false }).setTx
      (s.tx.filter (fun e => !(e.kind = .presence && !e.onBus)))

/-- The station has won its contention, begun with standing `st` (R133, R134). -/
def State.won (s : State) (st : BitVec 4) : State :=
  match s.tx with
  | [] => s
  | e :: rest =>
    let t := (s.headWon e rest).beaconWon e.kind
    t.setBus { t.bus with standing := 15, activity := .attempting st }

/-! ## The frame on the bus (R132, R133, R145, R177) -/

/-- The contention field of an entry, sent with standing `st`: the class bit, the standing and the own address, each most
significant bit first (R132, R177). -/
def State.contentionField (s : State) (st : BitVec 4) (e : TxEntry) : List Bool :=
  (!e.urgent) :: (fieldBits st ++ fieldBits s.address)

/-- The frame of an attempt at the entry `e` whose contention was begun with standing `st`: the own address, and the
sequence number, channel and payload of the entry (R133, R177). An entry that has not won yet has no frame. -/
def State.entryFrame (s : State) (st : BitVec 4) (e : TxEntry) : Option Frame :=
  match e.seq, e.msg with
  | some q, some m => some { standing := st, sender := s.address, seq := q, channel := e.channel, msg := m }
  | _, _ => none

/-- The frame that the station sends: that of its head, while it attempts it (R133, R145). -/
def State.frameSent (s : State) : Option Frame :=
  match s.bus.activity, s.tx with
  | .attempting st, e :: _ => s.entryFrame st e
  | .attempting _, [] | .contending _, _ | .idle, _ => none

/-- The cells that the station sends at its own frame, from the class bit on: the contention field while it contends,
and the whole frame, with the CRC formed over this attempt and the two slots, while it attempts (R111, R117, R125, R132,
R133). -/
def State.cellsSent (s : State) : List Bool :=
  match s.bus.activity, s.tx with
  | .contending st, e :: _ => s.contentionField st e
  | .attempting _, _ => (s.frameSent.map Frame.sentCells).getD []
  | .contending _, [] | .idle, _ => []

/-! ## Returns to WAITING (R128, R131) -/

/-- The producer of an entry is told that it is back in WAITING: an unwanted entry is withdrawn, and the HOLD of an
entry with a noted drop is taken back (R35, R38, R47, R131). -/
def State.tellReturned (s : State) (e : TxEntry) : State :=
  if e.unwanted then s.withdrawEntry e.producer
  else
    match e.producer, e.kind with
    | .source i, .hold => s.holdReturned i
    | .source _, _ | .record _, _ | .responder, _ | .beacon, _ => s

/-- The head returns to WAITING and its producer is told (R128, R131). -/
def State.headReturned (s : State) (e : TxEntry) (rest : List TxEntry) : State :=
  (s.setTx (returnEntry e rest)).tellReturned e

/-- The station has lost its contention (R132, R134). -/
def State.lost (s : State) : State :=
  match s.tx with
  | [] => s
  | e :: rest =>
    let t := s.setBus { s.bus with activity := .idle, standing := s.bus.standing - (if s.bus.standing = 0 then 0 else 1) }
    t.headReturned e rest

/-! ## Conclusions (R135–R139) -/

/-- The four outcomes of an attempt (R135). -/
inductive Attempt
  | delivered
  | failedNak
  | failedUnheard
  | failedBit
  deriving DecidableEq, Repr

/-- The outcome that the slots show (R135). -/
def slotOutcome (ackSeen nakSeen : Bool) : Attempt :=
  if nakSeen then .failedNak else if ackSeen then .delivered else .failedUnheard

/-- The tally of an outcome (R135). -/
def State.countAttempt (s : State) (a : Attempt) : State :=
  match a with
  | .failedNak => s.count .naksSeen
  | .failedBit => s.count .bitErrors
  | .delivered | .failedUnheard => s

/-- The roster holds a PRESENT entry (R136). -/
def State.anyPresent (s : State) : Bool := s.roster.toList.any (fun e => e.state = .present)

/-- How the entry leaves the list at an outcome; none when it returns to WAITING for a retry (R136, R137). A PRESENCE
is removed at its first outcome. -/
def State.resultOf (s : State) (e : TxEntry) (a : Attempt) : Option TxResult :=
  match a with
  | .delivered => some .delivered
  | .failedUnheard =>
    if !s.anyPresent then some .noAudience
    else if e.kind = .presence then some .undelivered
    else if e.retries < s.bus.retryLimit.toNat then none
    else some .undelivered
  | .failedNak | .failedBit =>
    if e.kind = .presence then some .undelivered
    else if e.retries < s.bus.retryLimit.toNat then none
    else some .undelivered

/-- The producer of an entry is told how it left the list (R16, R17, R28, R37, R38, R46, R47, R141, R159, R166). The
JOIN's conclusion takes the station to JOINED (R141). -/
def State.tellConcluded (s : State) (e : TxEntry) (r : TxResult) : State :=
  match e.producer with
  | .record j => s.releaseConcluded j e.unwanted r
  | .source i =>
    match e.kind with
    | .edge => s.edgeConcluded i r
    | .clear => s.clearConcluded i r
    | .hold | .release | .presence | .query | .report | .join => s.holdConcluded i e.unwanted r
  | .responder => (s.noteResult r).setReply none
  | .beacon =>
    if e.kind = .join then (s.noteResult r).enterState .joined else s

/-- The head at an outcome: removed, or returned with its retry count increased (R136, R137). -/
def State.headConcluded (s : State) (e : TxEntry) (rest : List TxEntry) (a : Attempt) : State :=
  match s.resultOf e a with
  | some r => (s.setTx rest).tellConcluded e r
  | none => s.headReturned { e with retries := e.retries + 1 } rest

/-- Whether an entry is self-delivered at a whole sending (R138). -/
def TxEntry.selfDelivers (e : TxEntry) : Bool :=
  !e.selfDelivered && (e.kind = .edge || e.kind = .hold || e.kind = .clear)

/-- The self-delivery of a notice to the station's own dispatcher (R62, R138). -/
def State.selfDeliver (s : State) (e : TxEntry) : State :=
  let t := s.setTx (s.tx.map (fun f => if f.producer = e.producer then { f with selfDelivered := true } else f))
  match e.msg with
  | some (.edge n _) => t.dispatchEdge t.address e.channel n.toNat
  | some (.hold _ re) => t.selfHold e.channel re
  | some (.clear _) => t.dispatchClear t.address e.channel
  | _ => t

/-- The consecutive-failure count after an outcome (R136, R139). -/
def failuresAfter (n : Nat) (a : Attempt) (noAudience : Bool) : Nat :=
  match a with
  | .delivered => 0
  | .failedUnheard => if noAudience then n else n + 1
  | .failedNak | .failedBit => n + 1

end Sys2Proof.Machine
end

