-- ==== Sys2Proof/Machine/Station.lean ====
section
/-! DEFINITION. The station states (section 7.4): LISTENING, the flush, WITHDRAWN, CONFLICT, the restart, and what the
transmit side does at a conclusion (R139). -/

namespace Sys2Proof.Machine

/-! ## Flush (R19, R21, R51, R142, R143, R167) -/

/-- The producer of an entry loses it in a flush and owes the same frame again; a PRESENCE is not owed again (log entry
16 for a JOIN). -/
def State.tellFlushed (s : State) (e : TxEntry) : State :=
  match e.producer with
  | .record j => if e.unwanted then s else s.releaseFlushed j
  | .source i => if e.kind = .edge then s.edgeFlushed i else s
  | .responder => s.setReply (s.reply.map (fun r => { r with state := .owed }))
  | .beacon => if e.kind = .join then s.setBeacon { s.beacon with owesJoin := true } else s

/-- The transmit list is flushed (R142, R143), and an owed PRESENCE is dropped (R158). -/
def State.flush (s : State) : State :=
  let t := s.tx.foldl State.tellFlushed (s.setTx [])
  t.setBeacon { t.beacon with owesPresence := false }

/-! ## State changes -/

/-- The entry into LISTENING (R140): standing 15, and a hold-off of twice the beacon interval. The fault kind WITHDRAWN
is not present outside WITHDRAWN (section 9.4). -/
def State.enterListening (s : State) : State :=
  let t := (s.unlatch .withdrawn).enterState .listening
  t.setBus { t.bus with standing := 15, holdOff := t.timerFor (2 * t.bus.beaconUs) }

/-- The entry into LISTENING from OFFLINE (R115, R140, R152): the receive side begins in WAITING-IDLE, and the beacon
interval timer starts. -/
def State.comeOnline (s : State) : State :=
  let t := s.enterListening
  (t.setBus { t.bus with phase := .waitingIdle }).setBeacon { t.beacon with timer := t.timerFor t.bus.beaconUs }

/-- The entry into JOINING (R141). -/
def State.enterJoining (s : State) : State :=
  let t := s.enterState .joining
  (t.setBus { t.bus with holdOff := none }).setBeacon { t.beacon with owesJoin := true }

/-- The entry into WITHDRAWN (R142). -/
def State.enterWithdrawn (s : State) : State :=
  let t := s.flush
  ((t.setBus { t.bus with failures := 0, fresh := false, holdOff := t.timerFor withdrawUs }).latch
    .withdrawn).enterState .withdrawn

/-- The entry into CONFLICT (R143, R144); WITHDRAWN does not last beyond its state (log entry 15). -/
def State.enterConflict (s : State) : State :=
  let t := s.flush
  (((t.setBus { t.bus with holdOff := none }).unlatch .withdrawn).latch .addressConflict).enterState .conflict

/-- The state after a full reset or restart (R185), with what each keeps. -/
def State.cleared (s : State) (adr : Addr) (rate : BitVec 2) (time : Nat) (sequence : Seq) : State :=
  { State.reset with
    time := time
    pins := s.pins
    address := adr
    rate := rate
    bus := { BusInterface.reset with sequence := sequence }
    roster := Vector.ofFn (RosterEntry.reset adr)
    loader := Loader.reset (time + resetHoldUs)
    freeCount := s.freeCount
    pending := s.pending }

/-- A full reset ends (R177, R185). -/
def State.fullReset (s : State) (adr : Addr) (rate : BitVec 2) : State := s.cleared adr rate 0 0

/-- A restart (R172, R185): address, rate, time base and sequence counter are kept. -/
def State.restart (s : State) : State := s.cleared s.address s.rate s.time s.bus.sequence

/-! ## The steps of a conclusion (R139) -/

/-- The consecutive-failure count, the withdrawal it may cause, or else admission (R139, R142; log entry 28). -/
def State.countFailures (s : State) (n : Nat) : State :=
  if 32 ≤ n then s.enterWithdrawn else (s.setBus { s.bus with failures := n }).settle

/-- Whether the entry is the REPORT of a reply that carries a restart, and leaves the list (R166, R172). -/
def State.restartsAt (s : State) (e : TxEntry) (a : Attempt) : Bool :=
  e.producer = .responder && (s.resultOf e a).isSome &&
    (match s.reply with
      | some r => r.restart
      | none => false)

/-- An attempt concludes with an outcome (R139). The receive phase has been set by the caller; the activity ends here.
An attempt that met a bit error is not self-delivered (R138). An attempt at a RELEASE that its record no longer wants
counts its NAK seen or bit error as any attempt does (R135): that "no tally changes" in R47 is read of the undelivered
tally, which the conclusion disregarded there would count (DEDUCED; log entry 31). -/
def State.conclude (s : State) (a : Attempt) : State :=
  match s.tx with
  | [] => s.setBus { s.bus with activity := .idle }
  | e :: rest =>
    let n := failuresAfter s.bus.failures a (!s.anyPresent)
    let t := (s.setBus { s.bus with activity := .idle }).countAttempt a
    let u := t.headConcluded e rest a
    let v := if a ≠ .failedBit ∧ e.selfDelivers then u.selfDeliver e else u
    let w := v.countFailures n
    if s.restartsAt e a then w.restart else w

end Sys2Proof.Machine
end

