-- ==== Sys2Proof/Machine/Reception.lean ====
section
/-! DEFINITION. Reception (sections 6.6, 6.7, chapter 8): the slots, the receive filter, the roster, JOIN and the
beacon interval. -/

namespace Sys2Proof.Machine

/-! ## The end of a frame (R114, R122–R126) -/

/-- The station is receiving a frame of others: it is not OFFLINE, a frame has begun, and no entry of its own is on the
bus (R114, R115, R131; log entry 18). -/
def State.takesFrame (s : State) : Bool :=
  s.bus.station != .offline && s.bus.activity = .idle && (s.bus.phase = .receiving || s.bus.phase = .slots)

/-- The station states in which the station answers in the slots (R109, R122, R123). -/
def StationState.answers (st : StationState) : Bool := st = .listening || st = .joining || st = .joined

/-- What the station drives in the slots at a verdict (R122, R123, R124). -/
def State.slotsFor (s : State) (v : Verdict) : SlotAnswer :=
  if s.bus.station.answers then
    match v with
    | .correct f => if f.sender = s.address then .none else .ack
    | .crcError | .formatError => if s.bus.stopped then .none else .nak
    | .incomplete => .none
  else .none

/-- The frame has ended, by its NAK slot or by truncation (R114). -/
def State.frameEnds (s : State) (answer : SlotAnswer) : State :=
  s.setBus { s.bus with phase := .waitingIdle, stopped := false, slotAnswer := answer }

/-! ## The receive filter (R146–R148) -/

/-- The kinds that skip the duplicate test (R146). -/
def msgSkipsFilter : Msg → Bool
  | .join _ _ | .presence _ _ _ => true
  | .edge _ _ | .hold _ _ | .clear _ | .release _ _ | .query _ _ _ | .report _ _ _ _ _ _ => false

/-- A frame is a duplicate (R148). -/
def State.isDuplicate (s : State) (f : Frame) : Bool :=
  !msgSkipsFilter f.msg && (s.rosterAt f.sender).lastSeq = some f.seq

/-- Steps 1 and 3 at the sender's entry (R146, R151). -/
def RosterEntry.heard (e : RosterEntry) (seq : Seq) : RosterEntry :=
  { e with state := .present, silence := 0, lastSeq := some seq }

/-- The sender's entry after steps 1 and 3 (R146). -/
def State.hear (s : State) (f : Frame) : State :=
  s.setRoster (addrIdx f.sender) ((s.rosterAt f.sender).heard f.seq)

/-- A JOIN at the roster (R156, R157); `prior` is the last sequence before step 3. -/
def State.takeJoin (s : State) (f : Frame) (prior : Option Seq) (fresh : Bool) (sig : Signature) : State :=
  let e := s.rosterAt f.sender
  let counts := fresh && prior != some f.seq
  let t := s.setRoster (addrIdx f.sender)
    { e with signature := some sig, freshJoins := if counts then satInc e.freshJoins else e.freshJoins }
  let u := if t.bus.requireCommonImage && sig != t.ownSignature then t.latch .imageMismatch else t
  if fresh then u.purge f.sender else u

/-- Step 4: delivery by kind (R147). In CONFLICT only JOIN and PRESENCE reach a block, the roster. -/
def State.deliver (s : State) (f : Frame) (prior : Option Seq) : State :=
  match f.msg with
  | .join fresh sig => s.takeJoin f prior fresh sig
  | .presence _ _ _ | .report _ _ _ _ _ _ => s
  | .edge n _ => s.dispatchEdge f.sender f.channel n.toNat
  | .hold k re => s.dispatchHold f.sender f.channel k re
  | .clear k => s.takeClear f.sender f.channel k
  | .release owner k => if s.inert then s else s.takeRelease f.sender f.channel owner k
  | .query target item index =>
    if s.inert then s else if target = s.address then s.takeQuery f.sender item index else s

/-- The receive filter takes a frame (R146). -/
def State.filter (s : State) (f : Frame) : State :=
  if s.isDuplicate f then (s.hear f).count .duplicates
  else (s.hear f).deliver f (s.rosterAt f.sender).lastSeq

/-- A frame that bears the own address (R124, R143, R144). -/
def State.takeOwnAddress (s : State) : State := if s.bus.station = .conflict then s else s.enterConflict

/-- A frame of others ends with this verdict (R121–R126). -/
def State.takeVerdict (s : State) (v : Verdict) : State :=
  let t := s.frameEnds (s.slotsFor v)
  match v with
  | .correct f => if f.sender = s.address then t.takeOwnAddress else t.filter f
  | .crcError | .formatError | .incomplete => t

/-- The verdict on a frame whose CRC is correct (R121; log entry 21). -/
def Frame.verdict (f : Frame) : Verdict := if f.formatOk then .correct f else .formatError

/-- A frame with correct CRC ends at this station. -/
def State.receive (s : State) (f : Frame) : State := if s.takesFrame then s.takeVerdict f.verdict else s

/-- The frame of an arrival. -/
def rxFrame (rx : Rx) (ch : Channel) (m : Msg) : Frame :=
  { standing := rx.standing, sender := rx.sender, seq := rx.seq, channel := ch, msg := m }

/-! ## The beacon interval (R152–R154, R158) -/

/-- A roster entry at an expiry of the beacon interval timer (R153). -/
def RosterEntry.aged (e : RosterEntry) : RosterEntry :=
  if e.state = .present then
    if e.silence.toNat < 2 then { e with silence := e.silence + 1 }
    else { e with silence := 3, state := .lost, lastSeq := none }
  else e

/-- The entry goes LOST at this expiry (R153). -/
def RosterEntry.goesLost (e : RosterEntry) : Bool := e.state = .present && 2 ≤ e.silence.toNat

/-- The addresses that go LOST at this expiry, ascending (R153, R154). -/
def State.lostNow (s : State) : List Addr :=
  ((indices 32).filter (fun a => (look s.roster a).goesLost)).map (fun a => BitVec.ofNat 5 a.val)

/-- The roster ages its entries (R153). -/
def State.ageRoster (s : State) : State := { s with roster := s.roster.map RosterEntry.aged }

/-- A LOST report changes something at the source table (R39). -/
def State.waivable (s : State) (a : Addr) : Bool := (indices 16).any (fun i => (s.source i).waives a)

/-- A LOST report changes something at the acceptance table (R50). -/
def State.purgeable (s : State) (a : Addr) : Bool :=
  (indices 8).any (fun j =>
    match s.slot j with
    | some r => r.sender = a
    | none => false)

/-- The reports of one expiry, each block in ascending address order; between the two blocks there is no order, so the
order is free (R154, section 0.6; log entry 9). `n` bounds how many reports are taken. -/
def State.reportLost : Nat → State → List Addr → List Addr → State
  | _, s, [], ps => ps.foldl State.purge s
  | _, s, ws, [] => ws.foldl State.waive s
  | 0, s, _, _ => s
  | n + 1, s, w :: ws, p :: ps =>
    let t := { s with freeCount := s.freeCount + 1 }
    if Config.sourceTableFirst s.freeCount then State.reportLost n (t.waive w) ws (p :: ps)
    else State.reportLost n (t.purge p) (w :: ws) ps

/-- The roster at an expiry: ageing, then the LOST reports that change something (R153, R154). -/
def State.ageAndReport (s : State) : State :=
  let ls := s.lostNow
  let t := s.ageRoster
  let ws := ls.filter t.waivable
  let ps := ls.filter t.purgeable
  State.reportLost (ws.length + ps.length) t ws ps

/-- The beacon at an expiry (R158). -/
def State.beaconDecides (s : State) : State :=
  let listed := s.tx.any (fun e => e.kind = .presence)
  let owes := s.bus.station = .joined && !s.beacon.won && !s.beacon.owesPresence && !listed
  s.setBeacon { s.beacon with won := false, owesPresence := s.beacon.owesPresence || owes }

end Sys2Proof.Machine
end

