-- ==== Sys2Proof/Machine/BusEvents.lean ====
section
/-! DEFINITION. The meanings of the bus commands: idle, contention, attempts and frames without a delivery
(chapters 6 and 7). -/

namespace Sys2Proof.Machine

/-- BUS_IDLE (R114, R132). -/
def execBusIdle (s : State) : Result :=
  if s.bus.station ≠ .offline ∧ s.bus.phase = .waitingIdle then
    .next (s.setBus { s.bus with phase := .busIdle }).offerIfIdle
  else .next s

/-- FRAME_BEGINS (R114, R132): a WAITING head joins the first cell. -/
def execFrameBegins (s : State) : Result :=
  if s.bus.station ≠ .offline ∧ s.bus.phase = .busIdle then
    .next (s.setBus { s.bus with phase := .receiving, stopped := false }).offerHead
  else .next s

/-- CONTENTION_WON (R133, R134, R158, R159). -/
def execContentionWon (s : State) : Result :=
  match s.bus.activity with
  | .contending st => .next (s.won st).settle
  | .idle | .attempting _ => .next s

/-- CONTENTION_LOST (R131, R132, R134). -/
def execContentionLost (s : State) : Result :=
  match s.bus.activity with
  | .contending _ => .next s.lost.settle
  | .idle | .attempting _ => .next s

/-- BIT_ERROR (R124, R135, R139): the station goes on receiving, as one that stopped. -/
def execBitError (s : State) : Result :=
  match s.bus.activity with
  | .attempting _ => .next ((s.setBus { s.bus with phase := .receiving, stopped := true }).conclude .failedBit)
  | .idle | .contending _ => .next s

/-- ATTEMPT_CONCLUSION (R135, R139): the frame is complete (R114). -/
def execAttemptConclusion (ackSeen nakSeen : Bool) (s : State) : Result :=
  match s.bus.activity with
  | .attempting _ =>
    .next ((s.setBus { s.bus with phase := .waitingIdle, stopped := false }).conclude (slotOutcome ackSeen nakSeen))
  | .idle | .contending _ => .next s

/-- FRAME_TRUNCATION (R114). -/
def execFrameTruncation (s : State) : Result :=
  if s.takesFrame then .next (s.takeVerdict .incomplete) else .next s

/-- FRAME_IN_ERROR (R121, R123): the verdict is formed on the cells (log entry 23). -/
def execFrameInError (cells : List Bool) (s : State) : Result :=
  if s.takesFrame then .next (s.takeVerdict (verdict cells)).settle else .next s

/-- OWN_ADDRESS_FRAME (R124, R143). -/
def execOwnAddressFrame (standing : BitVec 4) (seq : Seq) (channel : Channel) (msg : Msg) (s : State) : Result :=
  .next (s.receive { standing := standing, sender := s.address, seq := seq, channel := channel, msg := msg })

end Sys2Proof.Machine
end

