-- ==== Sys2Proof/Machine/InputEvents.lean ====
section
/-! DEFINITION. The input conditioner (section 1.1) and the meanings of its commands. -/

namespace Sys2Proof.Machine

/-- The conditioned level of line `n` (R2). -/
def State.conditioned (s : State) (n : Fin 16) : Bool := look s.pins n != (s.input n).invert

/-- The filtered level changes, as an edge and as a level (R3, R5). -/
def State.filteredChange (s : State) (n : Fin 16) (level : Bool) : State :=
  let t := s.setInput n { s.input n with filtered := level, stability := none }
  ((t.presentEdge (.input n) (if level then .rise else .fall)).presentLevel (.input n) level).settle

/-- The conditioner after a change of the level at its pin (R3): an interval begins, is abandoned, or with filter time 0
ends at once. -/
def State.conditionerStep (s : State) (n : Fin 16) : State :=
  let l := s.input n
  if s.conditioned n = l.filtered then s.setInput n { l with stability := none }
  else if l.filterTime = 0 then s.filteredChange n (s.conditioned n)
  else if l.stability = none then
    s.setInput n { l with stability := s.timerFor (l.filterTime.toNat * filterStepUs) }
  else s

/-- INPUT_PIN_CHANGE (R2, R3, R4): the conditioner runs from READY on. -/
def execInputPinChange (line : Fin 16) (level : Bool) (s : State) : Result :=
  let t := s.setPin line level
  if s.loader.phase = .ready then .next (t.conditionerStep line) else .next t

/-- STABILITY_INTERVAL_EXPIRY (R3, R5). -/
def execStabilityIntervalExpiry (line : Fin 16) (s : State) : Result :=
  let l := s.input line
  if l.stability = none then .next s
  else
    let t := s.reach l.stability
    if s.conditioned line = l.filtered then .next (t.setInput line { l with stability := none })
    else .next (t.filteredChange line (s.conditioned line))

end Sys2Proof.Machine
end

