-- ==== Sys2Proof/Machine/Operands.lean ====
section
/-! DEFINITION. The configuration image (section 10.4): its bytes as configuration fields, and its validation
(R182). -/

namespace Sys2Proof.Machine

/-- Byte `n` of the image (section 10.4). -/
def imgByte (img : List Byte) (n : Nat) : Byte := img.getD n 0

/-- Two image bytes as a number, high byte first (section 10.4). -/
def imgWord (img : List Byte) (n : Nat) : BitVec 16 := imgByte img n ++ imgByte img (n + 1)

/-- The offset of an entry (section 10.4). -/
def sourceOffset (i : Nat) : Nat := 11 + 8 * i
/-- The offset of an entry (section 10.4). -/
def subOffset (k : Nat) : Nat := 139 + 6 * k
/-- The offset of an entry (section 10.4). -/
def profileOffset (p : Nat) : Nat := 331 + 8 * p
/-- The offset of an entry (section 10.4). -/
def genOffset (g : Nat) : Nat := 459 + 2 * g
/-- The offset of an entry (section 10.4). -/
def counterOffset (c : Nat) : Nat := 475 + 3 * c
/-- The offset of an entry (section 10.4). -/
def inputOffset (n : Nat) : Nat := 487 + n
/-- The offset of an entry (section 10.4). -/
def outOffset (o : Nat) : Nat := 503 + o

/-! ## Codes (section 10.4.2) -/

/-- The number of three bits. -/
def three (b : BitVec 3) : Fin 8 := ⟨b.toNat, b.isLt⟩

/-- The number of four bits. -/
def four (b : BitVec 4) : Fin 16 := ⟨b.toNat, b.isLt⟩

/-- The mode code. -/
def decodeMode (c : BitVec 3) : Mode :=
  match c.toNat with
  | 0 => .edgeRise
  | 1 => .edgeFall
  | 2 => .edgeBoth
  | 3 => .holdHigh
  | 4 => .holdLow
  | _ => .reserved c

/-- The origin code; 28–30, which validation refuses (R182), are read as none. -/
def decodeOrigin (c : BitVec 5) : Origin :=
  if h : c.toNat < 16 then .input ⟨c.toNat, h⟩
  else if h : c.toNat - 16 < 8 then .generator ⟨c.toNat - 16, h⟩
  else if h : c.toNat - 24 < 4 then .counter ⟨c.toNat - 24, h⟩
  else .none

/-- A releaser slot: bit 7 present, bits 4–0 address. -/
def decodeReleaser (b : Byte) : Option Addr := if b.getLsbD 7 then some (b.extractLsb' 0 5) else none

/-- The kinds code. -/
def decodeKinds (c : BitVec 2) : SubKinds :=
  match c.toNat with
  | 0 => .edge
  | 1 => .hold
  | 2 => .either
  | _ => .reserved

/-- The group code. -/
def decodeGroup (c : BitVec 3) : SubGroup :=
  if h : c.toNat < 4 then .member ⟨c.toNat, h⟩ else if c = 4 then .always else .reserved c

/-- The release policy code. -/
def decodeRelease (c : BitVec 2) : ReleasePolicy :=
  match c.toNat with
  | 0 => .none
  | 1 => .immediate
  | 2 => .atIdle
  | _ => .reserved

/-- The action kind code. -/
def decodeKind (c : BitVec 4) : ActionKind :=
  match c.toNat with
  | 0 => .none
  | 1 => .fire
  | 2 => .stop
  | 3 => .select
  | 4 => .set
  | 5 => .clear
  | 6 => .toggle
  | 7 => .count
  | 8 => .reset
  | 9 => .enable
  | 10 => .disable
  | _ => .reserved c

/-- An action byte: bits 7–4 kind, bits 2–0 target; the target is disregarded for NONE. -/
def decodeAction (b : Byte) : Action :=
  let k := decodeKind (b.extractLsb' 4 4)
  { kind := k, target := if k = .none then none else some (three (b.extractLsb' 0 3)) }

/-- The time unit code (R71); codes above 3 are refused by validation. -/
def decodeUnit (b : Byte) : TimeUnit :=
  match b.toNat with
  | 0 => .us1
  | 1 => .us10
  | 2 => .us100
  | _ => .ms1

/-- The retrigger policy code; 3 is refused by validation. -/
def decodeRetrigger (c : BitVec 2) : RetriggerPolicy :=
  match c.toNat with
  | 0 => .ignore
  | 1 => .restart
  | _ => .stack

/-! ## Entries (section 10.4.2) -/

/-- Source entry `i` of the image, with the run state of R23. -/
def imageSource (img : List Byte) (i : Fin 16) : SourceEntry :=
  let b (n : Nat) := imgByte img (sourceOffset i.val + n)
  { SourceEntry.reset with
    mode := decodeMode ((b 0).extractLsb' 5 3)
    origin := decodeOrigin ((b 0).extractLsb' 0 5)
    channel := b 1
    repeatFlag := (b 2).getLsbD 7
    waiveLost := (b 2).getLsbD 6
    quorum := (b 2).extractLsb' 0 3
    repeatDelay := b 3
    releasers := Vector.ofFn (fun (r : Fin 4) => decodeReleaser (b (4 + r.val))) }

/-- Subscription `k` of the image. -/
def imageSub (img : List Byte) (k : Fin 32) : Subscription :=
  let b (n : Nat) := imgByte img (subOffset k.val + n)
  { channel := b 0
    sender := if (b 1).getLsbD 2 then none else some ((b 1).extractLsb' 3 5)
    kinds := decodeKinds ((b 1).extractLsb' 0 2)
    group := decodeGroup ((b 2).extractLsb' 5 3)
    policy := decodeRelease ((b 2).extractLsb' 3 2)
    action := decodeAction (b 3)
    clearAction := decodeAction (b 4)
    param := some (four ((b 5).extractLsb' 0 4)) }

/-- Profile `p` of the image. -/
def imageProfile (img : List Byte) (p : Fin 16) : Profile :=
  let o := profileOffset p.val
  { delay := imgWord img o
    width := imgWord img (o + 2)
    gap := imgWord img (o + 4)
    count := imgByte img (o + 6)
    unit := decodeUnit (imgByte img (o + 7)) }

/-- Generator `g` of the image, with its initial profile active and the run state of R73. -/
def imageGen (img : List Byte) (g : Fin 8) : Generator :=
  let b (n : Nat) := imgByte img (genOffset g.val + n)
  let initial := four ((b 0).extractLsb' 4 4)
  { Generator.reset with
    initial := initial
    target := if (b 0).getLsbD 3 then some (three ((b 0).extractLsb' 0 3)) else none
    activeHigh := (b 1).getLsbD 7
    policy := decodeRetrigger ((b 1).extractLsb' 5 2)
    autostart := (b 1).getLsbD 4
    activeNumber := initial
    active := imageProfile img initial }

/-- Counter `c` of the image, at value 0 (R103). -/
def imageCounter (img : List Byte) (c : Fin 4) : Counter :=
  { value := 0
    terminal := imgWord img (counterOffset c.val)
    stick := (imgByte img (counterOffset c.val + 2)).getLsbD 7 }

/-- Input line `n` of the image, at the pin level `pin`: the filtered level is the conditioned level (R4). -/
def imageInput (img : List Byte) (n : Fin 16) (pin : Bool) : InputLine :=
  let b := imgByte img (inputOffset n.val)
  let inv := b.getLsbD 7
  { invert := inv, filterTime := b.extractLsb' 0 7, filtered := pin != inv, stability := none }

/-- Output line `o` of the image; the forced-safe flag is `forced` (R95, R101). -/
def imageOut (img : List Byte) (o : Fin 8) (forced : Bool) : OutputLine :=
  let b := imgByte img (outOffset o.val)
  { static := b.getLsbD 7, owner := none, safe := b.getLsbD 6, forcedSafe := forced }

/-- The maintenance address of header byte 8 (section 10.4.1). -/
def imageMaintenance (img : List Byte) : Option Addr :=
  if imgByte img 8 = 0xFF then none else some ((imgByte img 8).extractLsb' 0 5)

/-! ## The checks of a pass (R180) -/

/-- The memory is absent or blank: bytes 0–1 both FFh or both 00h (R180). -/
def headerBlank (h : List Byte) : Bool :=
  (imgByte h 0 = 0xFF && imgByte h 1 = 0xFF) || (imgByte h 0 = 0 && imgByte h 1 = 0)

/-- The magic, version and length of the header (R180). -/
def headerFormat (h : List Byte) : Bool :=
  imgByte h 0 = 0x4F && imgByte h 1 = 0x4A && imgByte h 2 = 0x01 && imgByte h 3 = 0x02 && imgByte h 4 = 0x01

/-- The pass reason of a header, in the order of R180; none when the header is correct. -/
def headerFault (h : List Byte) : Option (BitVec 3) :=
  if headerBlank h then some 1 else if headerFormat h then none else some 3

/-- The CRC held in bytes 511–512 (R179, R180). -/
def imageCrc (img : List Byte) : BitVec 16 := imgWord img 511

/-- The image signature: the low 15 bits of the CRC (R181). -/
def imageSignature (img : List Byte) : Signature := (imageCrc img).extractLsb' 0 15

/-! ## Validation (R182) -/

/-- The failing header byte, if any (table code 7). -/
def checkHeader (img : List Byte) : Option (BitVec 5) :=
  if imgByte img 5 = 0 || 100 < (imgByte img 5).toNat then some 5
  else if imgByte img 6 = 0 || 15 < (imgByte img 6).toNat then some 6
  else if imgByte img 7 = 0 then some 7
  else if 32 ≤ (imgByte img 8).toNat && imgByte img 8 != 0xFF then some 8
  else none

/-- A hold-mode source entry of the image in use (R6; log entry 17). -/
def imageHold (img : List Byte) (i : Fin 16) : Bool := (imageSource img i).isHold

/-- Whether source entry `i` breaks a check (table code 0). -/
def sourceRefused (img : List Byte) (i : Fin 16) : Bool :=
  let code := (imgByte img (sourceOffset i.val)).extractLsb' 0 5
  let e := imageSource img i
  if 28 ≤ code.toNat && code.toNat ≤ 30 then true
  else if e.origin = .none then false
  else
    (match e.mode with
      | .reserved _ => true
      | _ => false) ||
    e.channel = 0 ||
    (imageHold img i &&
      (5 ≤ e.quorum.toNat || (e.quorum = 0 && e.releasers.toList.all (· = none)) ||
        (match e.origin with
          | .counter c => !(imageCounter img c).stick
          | _ => false) ||
        (indices 16).any (fun j => j.val < i.val && imageHold img j && (imageSource img j).channel = e.channel)))

/-- Whether an action names a kind 11–15, or a counter or group 4–7. -/
def actionRefused (a : Action) : Bool :=
  match a.kind, a.target with
  | .reserved _, _ => true
  | .count, some t | .reset, some t | .enable, some t | .disable, some t => 4 ≤ t.val
  | _, _ => false

/-- Whether subscription `k` breaks a check (table code 1). -/
def subRefused (img : List Byte) (k : Fin 32) : Bool :=
  let e := imageSub img k
  if e.channel = 0 then false
  else
    e.kinds = .reserved || e.policy = .reserved ||
    (match e.group with
      | .reserved _ => true
      | _ => false) ||
    actionRefused e.action || actionRefused e.clearAction

/-- Whether profile `p` breaks a check (table code 2). -/
def profileRefused (img : List Byte) (p : Fin 16) : Bool :=
  (imageProfile img p).width = 0 || (imageProfile img p).gap = 0 ||
    3 < (imgByte img (profileOffset p.val + 7)).toNat

/-- Whether generator `g` breaks a check (table code 3). -/
def genRefused (img : List Byte) (g : Fin 8) : Bool :=
  (imgByte img (genOffset g.val + 1)).extractLsb' 5 2 = 3

/-- Whether counter `c` breaks a check (table code 4). -/
def counterRefused (img : List Byte) (c : Fin 4) : Bool := (imageCounter img c).terminal = 0

/-- The first entry of a part that breaks a check, with the table code. -/
def firstRefused {n : Nat} (table : BitVec 3) (bad : Fin n → Bool) : Option (BitVec 3 × BitVec 5) :=
  ((indices n).find? bad).map (fun i => (table, BitVec.ofNat 5 i.val))

/-- The failing table and index, part by part in the order of the image; none when every check passes (R182). -/
def validate (img : List Byte) : Option (BitVec 3 × BitVec 5) :=
  match checkHeader img with
  | some i => some (7, i)
  | none =>
    firstRefused 0 (sourceRefused img) <|> firstRefused 1 (subRefused img) <|>
    firstRefused 2 (profileRefused img) <|> firstRefused 3 (genRefused img) <|>
    firstRefused 4 (counterRefused img)

end Sys2Proof.Machine
end

