-- ==== Sys2Proof/Machine/Loader.lean ====
section
/-! DEFINITION. The configuration loader (chapter 10): passes, READY and FAILED. -/

namespace Sys2Proof.Machine

/-! ## The memory port (section 10.2, R178, R179, R186) -/

/-- The level of MCS: low while a pass has the memory selected, high otherwise (R178, R179). -/
def PortState.mcs : PortState → Bool
  | .holdLevels | .deselected => true
  | .selected => false

/-- The bytes that MDO shows in the pass in progress: the read command and the address (R179, R186); outside a pass the
loader sends nothing. -/
def Loader.mdo (l : Loader) : List Byte :=
  match l.port with
  | .selected => readCommand
  | .holdLevels | .deselected => []

/-- The bits on MDO in the order they are clocked, each byte most significant bit first (R179). -/
def Loader.mdoBits (l : Loader) : List Bool := l.mdo.flatMap fieldBits

/-! ## Passes (R179, R180) -/

/-- A read pass begins (R179). -/
def State.beginPass (s : State) : State :=
  s.setLoader
    { s.loader with
      phase := .reading
      passCount := s.loader.passCount + 1
      crc := crcStart
      buffer := []
      port := .selected
      timer := s.timerFor headerUs }

/-- The station goes onto the bus with its signature set (R140, R150, R181). -/
def State.goOnline (s : State) (sig : Signature) : State :=
  let a := addrIdx s.address
  let t := s.setLoader { s.loader with signature := some sig, timer := none, port := .deselected }
  (t.setRoster a { look t.roster a with signature := some sig }).comeOnline

/-- The loader reaches FAILED (R184). -/
def State.loadFailed (s : State) (reason : BitVec 3) (table : BitVec 3) (index : BitVec 5) : State :=
  let t := s.setLoader { s.loader with phase := .failed, reason := reason, failTable := table, failIndex := index }
  (t.latch .configFailed).goOnline 0

/-- A pass ends with a fault: the next pass after 10 µs, or FAILED after the third (R180). -/
def State.passFault (s : State) (reason : BitVec 3) : State :=
  if s.loader.passCount < 3 then
    s.setLoader { s.loader with phase := .reading, port := .deselected, timer := s.timerFor retryWaitUs }
  else s.loadFailed reason 0 0

/-! ## READY (R183) -/

/-- The level of an origin, as the source table reads it (R8, R9, R10). -/
def State.originLevel (s : State) (o : Origin) : Bool :=
  match o with
  | .input n => (s.input n).filtered
  | .generator g => (s.gen g).busy
  | .counter c => (s.counter c).atTerminal
  | .none => false

/-- The condition of entry `i` is set from its origin level; found asserted, it starts instance 0 (R10, R20). -/
def State.evaluateCondition (s : State) (i : Fin 16) : State :=
  let e := s.source i
  if e.isHold && e.mode.asserted (s.originLevel e.origin) then
    (s.setSource i { e with condition := true }).startInst i false
  else s

/-- Every block takes its configuration from the image (R183); no entry is ORPHANED then (R33). -/
def State.configure (s : State) (img : List Byte) : State :=
  State.refreshOrphaned { s with
    inputs := Vector.ofFn (fun n => imageInput img n (look s.pins n))
    sources := Vector.ofFn (imageSource img)
    releaseTimeout := imgByte img 7
    subs := Vector.ofFn (imageSub img)
    groups := Vector.ofFn (fun (m : Fin 4) => (imgByte img 9).getLsbD m.val)
    profiles := Vector.ofFn (imageProfile img)
    gens := Vector.ofFn (imageGen img)
    counters := Vector.ofFn (imageCounter img)
    outs := Vector.ofFn (fun o => imageOut img o true)
    maintenance := imageMaintenance img
    bus := { s.bus with
      beaconInterval := imgByte img 5
      retryLimit := (imgByte img 6).extractLsb' 0 4
      safeOnWithdraw := (imgByte img 10).getLsbD 0
      requireCommonImage := (imgByte img 10).getLsbD 1 } }

/-- Put a generator into a list ordered by rank. -/
def insertByRank (rank : Fin 8 → Nat) (g : Fin 8) : List (Fin 8) → List (Fin 8)
  | [] => [g]
  | h :: t => if rank g ≤ rank h then g :: h :: t else h :: insertByRank rank g t

/-- The generators with the autostart flag, in the free order of this READY (R93; log entry 10). -/
def State.autostarts (s : State) : List (Fin 8) :=
  ((indices 8).filter (fun g => (s.gen g).autostart)).foldr (insertByRank (Config.autostartRank s.freeCount)) []

/-- The autostart triggers, each an event of its own after READY (R93). -/
def State.autostart (s : State) : State :=
  let t := s.autostarts.foldl (fun u g => u.fire g 1) s
  { t with freeCount := t.freeCount + 1 }

/-- The loader reaches READY (R181, R183). -/
def State.loadReady (s : State) (img : List Byte) : State :=
  let t := (s.setLoader { s.loader with phase := .ready }).configure img
  let u := t.goOnline (imageSignature img)
  (forEach (fun i w => w.evaluateCondition i) u).autostart

/-- CHECKING: the CRC, and the validation of an image whose CRC is correct (R180, R182). -/
def State.check (s : State) (img : List Byte) : State :=
  if s.loader.crc ≠ imageCrc img then s.passFault 2
  else
    match validate img with
    | some (table, index) => s.loadFailed 4 table index
    | none => s.loadReady img

end Sys2Proof.Machine
end

