-- ==== Sys2Proof/Machine/LoaderEvents.lean ====
section
/-! DEFINITION. The meanings of the start-up commands: full reset and the events of the loader (chapter 10). -/

namespace Sys2Proof.Machine

/-- A pass is being received: the loader is READING with the memory selected (R179). -/
def Loader.inPass (l : Loader) : Bool := l.phase = .reading && l.port = .selected

/-- The loader waits between two passes (R180). -/
def Loader.waiting (l : Loader) : Bool := l.phase = .reading && l.port = .deselected

/-- FULL_RESET (R177, R185). -/
def execFullReset (adr : Addr) (rate : BitVec 2) (s : State) : Result := .next (s.fullReset adr rate)

/-- RESET_HOLD_EXPIRY (R178). -/
def execResetHoldExpiry (s : State) : Result :=
  if s.loader.phase = .resetHold then .next (s.reach s.loader.timer).beginPass else .next s

/-- The header of the current pass has been received (R179, R180). -/
def State.takeHeader (s : State) (h : List Byte) : State :=
  let t := s.setLoader { s.loader with buffer := h, crc := crcBytes s.loader.crc h }
  match headerFault h with
  | some reason => t.passFault reason
  | none => t.setLoader { t.loader with timer := t.timerFor bodyUs }

/-- HEADER_CHECK: byte 10 of the pass has been received (R180). -/
def execHeaderCheck (header : Vector Byte 11) (s : State) : Result :=
  if s.loader.inPass ∧ s.loader.buffer = [] then
    .next ((s.reach s.loader.timer).takeHeader header.toList)
  else .next s

/-- PASS_RETRY_WAIT_EXPIRY (R180). -/
def execPassRetryWaitExpiry (s : State) : Result :=
  if s.loader.waiting then .next (s.reach s.loader.timer).beginPass else .next s

/-- The rest of the image has been received: the pass ends and CHECKING is entered and left (R179, R180, R182). The
running CRC covers bytes 0–510. -/
def State.takeBody (s : State) (body : List Byte) : State :=
  let img := s.loader.buffer ++ body
  (s.setLoader { s.loader with phase := .checking, port := .deselected, timer := none, buffer := img,
                               crc := crcBytes s.loader.crc (body.take 500) }).check img

/-- READ_PASS_END: byte 512 has been received (R179). -/
def execReadPassEnd (body : Vector Byte 502) (s : State) : Result :=
  if s.loader.inPass ∧ s.loader.buffer.length = 11 then
    .next ((s.reach s.loader.timer).takeBody body.toList)
  else .next s

end Sys2Proof.Machine
end

