-- ==== Sys2Proof/Machine/Arrivals.lean ====
section
/-! DEFINITION. The meanings of the arrivals of correct frames from peers (R126, R146, R147). -/

namespace Sys2Proof.Machine

/-- A frame that can raise a demand is received; admission follows (R130). -/
def State.receiveSettled (s : State) (f : Frame) : State := if s.takesFrame then (s.receive f).settle else s

/-- EDGE_ARRIVAL (R58). -/
def execEdgeArrival (rx : Rx) (channel : Channel) (count : BitVec 4) (dir : Direction) (s : State) : Result :=
  .next (s.receiveSettled (rxFrame rx channel (.edge count dir)))

/-- HOLD_ARRIVAL (R59). -/
def execHoldArrival (rx : Rx) (channel : Channel) (inst : InstNo) (reannounce : Bool) (s : State) : Result :=
  .next (s.receiveSettled (rxFrame rx channel (.hold inst reannounce)))

/-- CLEAR_ARRIVAL (R61). -/
def execClearArrival (rx : Rx) (channel : Channel) (inst : InstNo) (s : State) : Result :=
  .next (s.receiveSettled (rxFrame rx channel (.clear inst)))

/-- RELEASE_ARRIVAL (R30). -/
def execReleaseArrival (rx : Rx) (channel : Channel) (owner : Addr) (inst : InstNo) (s : State) : Result :=
  .next (s.receiveSettled (rxFrame rx channel (.release owner inst)))

/-- PRESENCE_ARRIVAL (R160). -/
def execPresenceArrival (rx : Rx) (faulty : Bool) (code : BitVec 3) (anyHold : Bool) (s : State) : Result :=
  .next (s.receive (rxFrame rx 0 (.presence faulty code anyHold)))

/-- JOIN_ARRIVAL (R156). -/
def execJoinArrival (rx : Rx) (fresh : Bool) (signature : Signature) (s : State) : Result :=
  .next (s.receiveSettled (rxFrame rx 0 (.join fresh signature)))

/-- REPORT_ARRIVAL (R147). -/
def execReportArrival (rx : Rx) (querier : Addr) (item index d0 d1 d2 : Byte) (s : State) : Result :=
  .next (s.receive (rxFrame rx 0 (.report querier item index d0 d1 d2)))

/-- QUERY_OTHER_TARGET (R147). With the own address for its target the frame is a QUERY to this station, and is taken as
the other QUERY commands are, admission included: the model's reading of such operands (DEDUCED; log entry 21). -/
def execQueryOtherTarget (rx : Rx) (target : Addr) (item index : Byte) (s : State) : Result :=
  let f := rxFrame rx 0 (.query target item index)
  .next (if target = s.address then s.receiveSettled f else s.receive f)

end Sys2Proof.Machine
end

