-- ==== Sys2Proof/Machine/Queries.lean ====
section
/-! DEFINITION. The meanings of the QUERY commands to this station (R164–R172). -/

namespace Sys2Proof.Machine

/-- A QUERY whose target is this station is received, and the arbiter takes the reply it may set (R164). -/
def State.receiveQuery (s : State) (rx : Rx) (item index : Byte) : State :=
  s.receiveSettled (rxFrame rx 0 (.query s.address item index))

/-- QUERY_SUMMARY (R168, R169): item code 0. -/
def execQuerySummary (rx : Rx) (index : Byte) (s : State) : Result := .next (s.receiveQuery rx 0 index)

/-- QUERY_SOURCE (R168, R169): item code 1. -/
def execQuerySource (rx : Rx) (index : Byte) (s : State) : Result := .next (s.receiveQuery rx 1 index)

/-- QUERY_ACCEPT (R168, R169): item code 2. -/
def execQueryAccept (rx : Rx) (index : Byte) (s : State) : Result := .next (s.receiveQuery rx 2 index)

/-- QUERY_GENERATOR (R168, R169): item code 3. -/
def execQueryGenerator (rx : Rx) (index : Byte) (s : State) : Result := .next (s.receiveQuery rx 3 index)

/-- QUERY_COUNTER (R168, R169): item code 4. -/
def execQueryCounter (rx : Rx) (index : Byte) (s : State) : Result := .next (s.receiveQuery rx 4 index)

/-- QUERY_ROSTER (R168, R169): item code 5. -/
def execQueryRoster (rx : Rx) (index : Byte) (s : State) : Result := .next (s.receiveQuery rx 5 index)

/-- QUERY_TALLY (R168, R169): item code 6. -/
def execQueryTally (rx : Rx) (index : Byte) (s : State) : Result := .next (s.receiveQuery rx 6 index)

/-- QUERY_OUTPUTS (R168, R169): item code 7. -/
def execQueryOutputs (rx : Rx) (index : Byte) (s : State) : Result := .next (s.receiveQuery rx 7 index)

/-- QUERY_GROUPS (R168, R169): item code 8. -/
def execQueryGroups (rx : Rx) (index : Byte) (s : State) : Result := .next (s.receiveQuery rx 8 index)

/-- FAULT_RESET (R170, R171): item code 9. -/
def execFaultReset (rx : Rx) (index : Byte) (s : State) : Result := .next (s.receiveQuery rx 9 index)

/-- QUERY_RESTART (R170, R172): item code 10. -/
def execQueryRestart (rx : Rx) (index : Byte) (s : State) : Result := .next (s.receiveQuery rx 10 index)

/-- QUERY_UNKNOWN_ITEM (R168): an item code above 10. -/
def execQueryUnknownItem (rx : Rx) (item index : Byte) (s : State) : Result := .next (s.receiveQuery rx item index)

end Sys2Proof.Machine
end

