-- ==== Sys2Proof/Machine/TimerEvents.lean ====
section
/-! DEFINITION. The meanings of the timer commands of holds, generators, the hold-off and the beacon interval. -/

namespace Sys2Proof.Machine

/-- RELEASE_TIMER_EXPIRY (R29). -/
def execReleaseTimerExpiry (entry : Fin 16) (s : State) : Result :=
  let r := (s.source entry).releaseTimer
  if r = none then .next s else .next ((s.reach r).releaseExpired entry).settle

/-- REPEAT_TIMER_EXPIRY (R34). -/
def execRepeatTimerExpiry (entry : Fin 16) (s : State) : Result :=
  let r := (s.source entry).repeatTimer
  if r = none then .next s else .next ((s.reach r).startInst entry true).settle

/-- DELAY_EXPIRY (R76). -/
def execDelayExpiry (g : Fin 8) (s : State) : Result :=
  if (s.gen g).phase = .delay then .next ((s.reach (s.gen g).timer).delayEnds g) else .next s

/-- PULSE_EXPIRY (R78). -/
def execPulseExpiry (g : Fin 8) (s : State) : Result :=
  if (s.gen g).phase = .pulse then .next ((s.reach (s.gen g).timer).pulseEnds g).settle else .next s

/-- GAP_EXPIRY (R79). -/
def execGapExpiry (g : Fin 8) (s : State) : Result :=
  if (s.gen g).phase = .gap then .next ((s.reach (s.gen g).timer).gapEnds g) else .next s

/-- HOLD_OFF_EXPIRY (R140, R141). -/
def execHoldOffExpiry (s : State) : Result :=
  if s.bus.holdOff = none then .next s
  else
    match s.bus.station with
    | .listening => .next (s.reach s.bus.holdOff).enterJoining.settle
    | .withdrawn => .next (s.reach s.bus.holdOff).enterListening
    | .offline | .joining | .joined | .conflict => .next s

/-- BEACON_INTERVAL_EXPIRY (R152, R153, R154, R158). -/
def execBeaconIntervalExpiry (s : State) : Result :=
  if s.beacon.timer = none then .next s
  else
    let t := s.reach s.beacon.timer
    let u := t.setBeacon { t.beacon with timer := t.timerFor t.bus.beaconUs }
    .next u.ageAndReport.beaconDecides.settle

end Sys2Proof.Machine
end

