-- ==== Sys2Proof/Machine/Dispatch.lean ====
section
/-! DEFINITION. The effect of each command, on everything but the queue. -/

namespace Sys2Proof.Machine

def exec (i : Instr) (s : State) : Host.Outcome State Fault Refusal :=
  match i with
  | .fullReset adr rate => Sys2Proof.Machine.execFullReset adr rate s
  | .resetHoldExpiry => Sys2Proof.Machine.execResetHoldExpiry s
  | .headerCheck header => Sys2Proof.Machine.execHeaderCheck header s
  | .passRetryWaitExpiry => Sys2Proof.Machine.execPassRetryWaitExpiry s
  | .readPassEnd body => Sys2Proof.Machine.execReadPassEnd body s
  | .inputPinChange line level => Sys2Proof.Machine.execInputPinChange line level s
  | .stabilityIntervalExpiry line => Sys2Proof.Machine.execStabilityIntervalExpiry line s
  | .releaseTimerExpiry entry => Sys2Proof.Machine.execReleaseTimerExpiry entry s
  | .repeatTimerExpiry entry => Sys2Proof.Machine.execRepeatTimerExpiry entry s
  | .delayExpiry g => Sys2Proof.Machine.execDelayExpiry g s
  | .pulseExpiry g => Sys2Proof.Machine.execPulseExpiry g s
  | .gapExpiry g => Sys2Proof.Machine.execGapExpiry g s
  | .busIdle => Sys2Proof.Machine.execBusIdle s
  | .contentionWon => Sys2Proof.Machine.execContentionWon s
  | .contentionLost => Sys2Proof.Machine.execContentionLost s
  | .bitError => Sys2Proof.Machine.execBitError s
  | .attemptConclusion ackSeen nakSeen => Sys2Proof.Machine.execAttemptConclusion ackSeen nakSeen s
  | .holdOffExpiry => Sys2Proof.Machine.execHoldOffExpiry s
  | .frameTruncation => Sys2Proof.Machine.execFrameTruncation s
  | .frameInError cells => Sys2Proof.Machine.execFrameInError cells s
  | .ownAddressFrame standing seq channel msg => Sys2Proof.Machine.execOwnAddressFrame standing seq channel msg s
  | .edgeArrival rx channel count dir => Sys2Proof.Machine.execEdgeArrival rx channel count dir s
  | .holdArrival rx channel inst reannounce => Sys2Proof.Machine.execHoldArrival rx channel inst reannounce s
  | .clearArrival rx channel inst => Sys2Proof.Machine.execClearArrival rx channel inst s
  | .releaseArrival rx channel owner inst => Sys2Proof.Machine.execReleaseArrival rx channel owner inst s
  | .presenceArrival rx faulty code anyHold => Sys2Proof.Machine.execPresenceArrival rx faulty code anyHold s
  | .joinArrival rx fresh signature => Sys2Proof.Machine.execJoinArrival rx fresh signature s
  | .reportArrival rx querier item index d0 d1 d2 => Sys2Proof.Machine.execReportArrival rx querier item index d0 d1 d2 s
  | .queryOtherTarget rx target item index => Sys2Proof.Machine.execQueryOtherTarget rx target item index s
  | .querySummary rx index => Sys2Proof.Machine.execQuerySummary rx index s
  | .querySource rx index => Sys2Proof.Machine.execQuerySource rx index s
  | .queryAccept rx index => Sys2Proof.Machine.execQueryAccept rx index s
  | .queryGenerator rx index => Sys2Proof.Machine.execQueryGenerator rx index s
  | .queryCounter rx index => Sys2Proof.Machine.execQueryCounter rx index s
  | .queryRoster rx index => Sys2Proof.Machine.execQueryRoster rx index s
  | .queryTally rx index => Sys2Proof.Machine.execQueryTally rx index s
  | .queryOutputs rx index => Sys2Proof.Machine.execQueryOutputs rx index s
  | .queryGroups rx index => Sys2Proof.Machine.execQueryGroups rx index s
  | .faultReset rx index => Sys2Proof.Machine.execFaultReset rx index s
  | .queryRestart rx index => Sys2Proof.Machine.execQueryRestart rx index s
  | .queryUnknownItem rx item index => Sys2Proof.Machine.execQueryUnknownItem rx item index s
  | .beaconIntervalExpiry => Sys2Proof.Machine.execBeaconIntervalExpiry s
  | .frameBegins => Sys2Proof.Machine.execFrameBegins s

end Sys2Proof.Machine
end

