-- ==== Sys2Proof/Machine/Ticks.lean ====
section
/-! DEFINITION. The tick of the time base (R1; log entry 4): the expiry commands of the timers that are due. -/

namespace Sys2Proof.Machine

/-- A timer is due at the moment `now`: its end has come (R1). -/
def dueAt (now : Nat) (t : Timer) : Bool :=
  match t with
  | none => false
  | some d => d ≤ now

/-- The expiry command of generator `g`, by its phase (R74). -/
def genExpiry (g : Fin 8) (p : GenPhase) : Option Instr :=
  match p with
  | .idle => none
  | .delay => some (.delayExpiry g)
  | .pulse => some (.pulseExpiry g)
  | .gap => some (.gapExpiry g)

/-- The expiry command of the loader, by its state (R178, R180); the ends of the parts of a pass are commands of the
memory side. -/
def loaderExpiry (l : Loader) : Option Instr :=
  match l.phase, l.port with
  | .resetHold, _ => some .resetHoldExpiry
  | .reading, .deselected => some .passRetryWaitExpiry
  | .reading, .holdLevels | .reading, .selected | .checking, _ | .ready, _ | .failed, _ => none

/-- The commands of the timers due at the moment `now` (R1), in the order of log entry 4. -/
def State.dueExpiries (s : State) (now : Nat) : List Instr :=
  (if dueAt now s.loader.timer then (loaderExpiry s.loader).toList else []) ++
    ((indices 16).filter (fun n => dueAt now (look s.inputs n).stability)).map .stabilityIntervalExpiry ++
    ((indices 16).filter (fun i => dueAt now (look s.sources i).releaseTimer)).map .releaseTimerExpiry ++
    ((indices 16).filter (fun i => dueAt now (look s.sources i).repeatTimer)).map .repeatTimerExpiry ++
    ((indices 8).filter (fun g => dueAt now (look s.gens g).timer)).filterMap
      (fun g => genExpiry g (look s.gens g).phase) ++
    (if dueAt now s.bus.holdOff then [.holdOffExpiry] else []) ++
    (if dueAt now s.beacon.timer then [.beaconIntervalExpiry] else [])

/-- One microsecond passes while no command waits: the timers that are due put their commands into the queue (log
entry 4). -/
def State.tick (s : State) : State :=
  { s with time := s.time + 1, pending := s.dueExpiries (s.time + 1) }

end Sys2Proof.Machine
end

