-- ==== Sys2Proof/Machine/Step.lean ====
section
/-! DEFINITION. The step: the command at the front of the queue, or a tick of the time base. -/

namespace Sys2Proof.Machine

/-- One step: the command at the front of the queue runs on the state with the queue's rest; on an empty queue one
microsecond passes (log entry 4). -/
def step (s : State) : Host.Outcome State Fault Refusal :=
  match s.pending with
  | [] => .next s.tick
  | c :: rest => exec c { s with pending := rest }

/-- The state with the command that a word spells at the front of its queue; no word spells one (log entry 24). -/
def State.withFetchWord (s : State) (nbits w : Nat) : State :=
  match decodeTableWord nbits w with
  | some c => { s with pending := c :: s.pending }
  | none => s

end Sys2Proof.Machine
end

