-- ==== Sys2Proof/Safety.lean ====
section
/-! DEFINITION. Safety: what holds of the station in every state a run reaches, block by block. Each predicate speaks of
a state and of nothing else; that every step keeps it, and that State.reset has it, are statements of
Sys2Proof/Certificates/Slice0/Obligations.lean. -/

namespace Sys2Proof.Machine

/-! ## Situations that many statements ask for -/

/-- A frame that the station does not send itself is being received: the station is not OFFLINE, no entry of its own is
on the bus, and a frame has begun (R114, R115). -/
abbrev Receiving (s : State) : Prop :=
  s.bus.station ≠ .offline ∧ s.bus.activity = .idle ∧ (s.bus.phase = .receiving ∨ s.bus.phase = .slots)

/-- The station answers in the slots: LISTENING, JOINING or JOINED (R122, R123). -/
abbrev Answering (s : State) : Prop :=
  s.bus.station = .listening ∨ s.bus.station = .joining ∨ s.bus.station = .joined

/-- The station acts on what it hears: it is in LISTENING, JOINING, JOINED or WITHDRAWN (R147). -/
abbrev Acting (s : State) : Prop := s.bus.station ≠ .offline ∧ s.bus.station ≠ .conflict

/-- A frame with this sender and sequence number is new at the duplicate filter (R148). -/
abbrev NewFrame (s : State) (rx : Rx) : Prop := (s.rosterAt rx.sender).lastSeq ≠ some rx.seq

/-- The state at the completion of a correct frame from a peer, before its delivery: the receive phase, the answer in
the slots (ACK where the station answers), and the sender's roster entry (R114, R122, R146). -/
def State.heardFrom (s : State) (rx : Rx) : State :=
  { s with
    bus := { s.bus with
      phase := .waitingIdle
      stopped := false
      slotAnswer :=
        if s.bus.station = .listening ∨ s.bus.station = .joining ∨ s.bus.station = .joined then .ack else .none }
    roster := upd s.roster (addrIdx rx.sender)
      { s.rosterAt rx.sender with state := .present, silence := 0, lastSeq := some rx.seq } }

/-- What a self-delivery runs: the station's own subscriptions to the notice that the entry `e` carries, a HOLD only
with the re-announce flag clear (R62, R138). -/
def State.ownDelivery (s : State) (e : TxEntry) : State :=
  match e.msg with
  | some (.edge n _) => (s.snapshot .edge s.address e.channel).foldl (fun t k => t.act k n.toNat) s
  | some (.hold _ false) => (s.snapshot .hold s.address e.channel).foldl (fun t k => t.act k 1) s
  | some (.clear _) => (s.snapshot .clear s.address e.channel).foldl (fun t k => t.clearAct k) s
  | _ => s

/-- The first whole sending of an EDGE, HOLD or CLEAR, which is self-delivered (R62, R138). -/
abbrev TxEntry.FirstSending (e : TxEntry) : Prop :=
  e.selfDelivered = false ∧ (e.kind = .edge ∨ e.kind = .hold ∨ e.kind = .clear)

/-- The head `e` returns to WAITING before the entries `rest` (R128, R131): an urgent entry keeps the front, a normal
entry goes first among the normal ones. An entry that its producer has given up is withdrawn (R38, R47). The HOLD of an
entry with a noted drop is withdrawn, and the entry goes to ENDING with its own instance when that was announced, to
ENDING with the instance before when that is still open, and else to QUIET (R35); the flags and sets that R35 does not name
are the model's (log entries 13 and 33). -/
def State.givenBack (s : State) (e : TxEntry) (rest : List TxEntry) : State :=
  let waiting : TxEntry := { e with onBus := false }
  let back :=
    if e.urgent then waiting :: rest else rest.takeWhile TxEntry.urgent ++ waiting :: rest.dropWhile TxEntry.urgent
  if e.unwanted then { s with tx := rest }
  else
    match e.producer, e.kind with
    | .source i, .hold =>
      let x := s.source i
      if x.dropNoted then
        { s with
          tx := rest
          sources := upd s.sources i
            (if x.announced then { x with holdState := .ending, dropNoted := false }
              else if x.predOpen then
                { x with holdState := .ending, inst := x.inst - 1, predOpen := false, dropNoted := false }
              else { x with holdState := .quiet, dropNoted := false }) }
      else { s with tx := back }
    | _, _ => { s with tx := back }

/-! ## What a producer owes (R129, R130) -/

/-- An entry of the transmit list as admission makes it: WAITING, retry count 0, both flags no, and no sequence number
(R130). -/
abbrev TxEntry.Unsent (e : TxEntry) : Prop :=
  e.onBus = false ∧ e.retries = 0 ∧ e.beenOnBus = false ∧ e.selfDelivered = false ∧ e.seq = none ∧ e.unwanted = false

/-- The unsent entry with this kind, channel, payload and producer. -/
abbrev TxEntry.Offers (e : TxEntry) (k : Kind) (ch : Channel) (m : Option Msg) (p : Producer) : Prop :=
  e.Unsent ∧ e.kind = k ∧ e.channel = ch ∧ e.msg = m ∧ e.producer = p

/-- A record in RELEASE-OWED owes a RELEASE that names its sender and instance (R46). -/
abbrev OwesRelease (s : State) (e : TxEntry) (j : Fin 8) : Prop :=
  ∃ r ∈ s.slot j, r.state = .releaseOwed ∧ e.Offers .release r.channel (some (.release r.sender r.inst)) (.record j)

/-- A hold-mode entry in use owes HOLD in ANNOUNCING, with the re-announce flag once it has been re-announced, and CLEAR
in ENDING, both with its instance (R20, R25, R29, R37). -/
abbrev OwesHold (s : State) (e : TxEntry) (i : Fin 16) : Prop :=
  (s.source i).isHold = true ∧
    (((s.source i).holdState = .announcing ∧
      e.Offers .hold (s.source i).channel (some (.hold (s.source i).inst (decide ((s.source i).reannounces ≠ 0))))
        (.source i)) ∨
    ((s.source i).holdState = .ending ∧
      e.Offers .clear (s.source i).channel (some (.clear (s.source i).inst)) (.source i)))

/-- The beacon owes JOIN, with the fresh flag and the signature as they stand (R130, R141). -/
abbrev OwesJoin (s : State) (e : TxEntry) : Prop :=
  s.beacon.owesJoin = true ∧ e.Offers .join 0 (some (.join s.bus.fresh (s.loader.signature.getD 0))) .beacon

/-- A source entry in OWED owes an EDGE, whose payload is captured later (R13, R14). -/
abbrev OwesEdge (s : State) (e : TxEntry) (i : Fin 16) : Prop :=
  (s.source i).edgeState = .owed ∧ e.Offers .edge (s.source i).channel none (.source i)

/-- The responder owes the REPORT of an OWED reply (R164, R166). -/
abbrev OwesReport (s : State) (e : TxEntry) : Prop :=
  (∃ r ∈ s.reply, r.state = .owed) ∧ e.Offers .report 0 none .responder

/-- The beacon owes PRESENCE (R158). -/
abbrev OwesPresence (s : State) (e : TxEntry) : Prop :=
  s.beacon.owesPresence = true ∧ e.Offers .presence 0 none .beacon

/-- Some producer owes the entry `e`, and `n` is its place in the order of R129: records first, lowest slot first, then
hold-mode entries, JOIN, edge-mode entries, REPORT and PRESENCE. -/
def OwedAt (s : State) (e : TxEntry) (n : Nat) : Prop :=
  (∃ j : Fin 8, n = j.val ∧ OwesRelease s e j) ∨ (∃ i : Fin 16, n = 8 + i.val ∧ OwesHold s e i) ∨
    (n = 24 ∧ OwesJoin s e) ∨ (∃ i : Fin 16, n = 25 + i.val ∧ OwesEdge s e i) ∨ (n = 41 ∧ OwesReport s e) ∨
    (n = 42 ∧ OwesPresence s e)

/-- The producer of `e` had no entry in the list, and `e` stands in it after admission, WAITING or as the head that
begins a contention at once (R130, R132). -/
abbrev AdmittedBy (s t : State) (e : TxEntry) : Prop :=
  (∀ f ∈ s.tx, f.producer ≠ e.producer) ∧ (e ∈ t.tx ∨ t.tx.head? = some { e with onBus := true })

/-! ## How an attempt ends (R135, R136, R137) -/

/-- A peer is PRESENT in the roster (R136). -/
abbrev Heard (s : State) : Prop := ∃ a : Fin 32, (look s.roster a).state = .present

/-- The command `c` ends an attempt at `e` so that `e` leaves the list with the result `r`: Delivered; no-audience, which
is silence without a PRESENT peer; or Undelivered, which is a NAK, silence or a bit error with no retry left. A PRESENCE
has no retry (R135, R136, R137). -/
def Removes (s : State) (e : TxEntry) (c : Instr) (r : TxResult) : Prop :=
  (r = .delivered ∧ c = .attemptConclusion true false) ∨
    (r = .noAudience ∧ c = .attemptConclusion false false ∧ ¬Heard s) ∨
    (r = .undelivered ∧ (e.kind = .presence ∨ s.bus.retryLimit.toNat ≤ e.retries) ∧
      ((c = .attemptConclusion false false ∧ Heard s) ∨ (∃ ack, c = .attemptConclusion ack true) ∨ c = .bitError))

/-- The station at the end of an attempt, before anything is told: the activity has ended, a bit error leaves the station
receiving as one that stopped (R124; log entry 30), and the NAK seen or the bit error is counted (R135). -/
def State.attemptOver (s : State) (c : Instr) : State :=
  match c with
  | .bitError =>
    { s with
      bus := { s.bus with activity := .idle, phase := .receiving, stopped := true }
      tallies := upd s.tallies 5 (satInc (look s.tallies 5)) }
  | .attemptConclusion _ true =>
    { s with
      bus := { s.bus with activity := .idle, phase := .waitingIdle, stopped := false }
      tallies := upd s.tallies 4 (satInc (look s.tallies 4)) }
  | _ => { s with bus := { s.bus with activity := .idle, phase := .waitingIdle, stopped := false } }

/-- An Undelivered result is counted and latched, the other two are not (R17, R28, R37, R46, R141, R166). -/
def State.resultNoted (s : State) (r : TxResult) : State :=
  match r with
  | .undelivered =>
    { s with
      tallies := upd s.tallies 0 (satInc (look s.tallies 0))
      faults := { s.faults with undelivered := true } }
  | .delivered | .noAudience => s

/-! ## The transmit list (R128, R129, R130) -/

/-- The order of R128: at most 8 entries, each of a different producer; only the head can be ON-BUS; among the WAITING
entries the urgent ones stand before the normal ones. -/
abbrev TxInOrder (l : List TxEntry) : Prop :=
  l.length ≤ 8 ∧ (l.map TxEntry.producer).Nodup ∧ (∀ e ∈ l.tail, e.onBus = false) ∧
    (l.filter (fun e => !e.onBus)).Pairwise (fun a b => b.urgent = true → a.urgent = true)

/-- The head is ON-BUS exactly while the station contends or attempts (section 7.1). -/
abbrev BusMatchesHead (s : State) : Prop :=
  (s.tx.head?.map TxEntry.onBus = some true ↔ s.bus.activity ≠ .idle)

/-- The transmit list is in order, and its ON-BUS entry is the one the station is sending. -/
abbrev TxSafe (s : State) : Prop := TxInOrder s.tx ∧ BusMatchesHead s

/-- The list is empty where the station state admits nothing (R130), and the station is OFFLINE until the loader ends
(section 10.2). -/
abbrev AdmissionSafe (s : State) : Prop :=
  (s.bus.station ≠ .joining → s.bus.station ≠ .joined → s.tx = []) ∧
    (s.loader.phase ≠ .ready → s.loader.phase ≠ .failed → s.bus.station = .offline)

/-! ## The defaults before READY (R140, R152, R184) -/

/-- Unless the loader has reached READY, the image values of the bus interface and the responder are the defaults of
FAILED: a beacon interval of 100 ms, a retry limit of 8, both options clear and no maintenance address (R140, R184). That
they hold before FAILED too is log entry 7. -/
abbrev DefaultsSafe (s : State) : Prop :=
  s.loader.phase ≠ .ready →
    s.bus.beaconInterval = 10 ∧ s.bus.retryLimit = 8 ∧ s.bus.safeOnWithdraw = false ∧
      s.bus.requireCommonImage = false ∧ s.maintenance = none

/-! ## The roster (R150) -/

/-- The roster holds exactly one SELF entry, the one at the own address (R150). -/
abbrev RosterSafe (s : State) : Prop := ∀ a : Fin 32, (look s.roster a).state = .self ↔ a = addrIdx s.address

/-! ## The counters (R103) -/

/-- A counter's value lies below its terminal for WRAP, and at it or below for STICK; the terminal is at least 1
(R103). -/
abbrev Counter.InRange (c : Counter) : Prop :=
  1 ≤ c.terminal.toNat ∧ if c.stick then c.value.toNat ≤ c.terminal.toNat else c.value.toNat < c.terminal.toNat

/-- Every counter is in range (R103). -/
abbrev CountersSafe (s : State) : Prop := ∀ c : Fin 4, (s.counter c).InRange

/-! ## The output lines (R95, R101) and the generators (R74, R83, R96, R97) -/

/-- The forced-safe flag of every line follows the station state (R101). -/
abbrev ForcedSafe (s : State) : Prop :=
  ∀ o : Fin 8, (s.out o).forcedSafe = forcedIn s.bus.station s.bus.safeOnWithdraw

/-- The run state of a generator fits its phase: in IDLE the timer is stopped and nothing is pending in the run; while
it runs the timer runs and pulses remain; a shadowed pulse is a pulse; a trigger is held only under STACK (R74, R83). -/
abbrev Generator.Fits (e : Generator) : Prop :=
  (e.phase = .idle ↔ e.timer = none) ∧ (e.phase = .idle ↔ e.remaining = .pulses 0) ∧
    (e.pendingTrigger = true → e.phase ≠ .idle ∧ e.policy = .stack) ∧ (e.shadowed = true → e.phase = .pulse)

/-- A generator owns a line exactly while it is in PULSE with that line as its target and is not shadowed (R77, R96,
R97). -/
abbrev ClaimsFit (s : State) : Prop :=
  ∀ (g o : Fin 8), (s.out o).owner = some g ↔
    ((s.gen g).phase = .pulse ∧ (s.gen g).target = some o ∧ (s.gen g).shadowed = false)

/-- Every generator fits its phase, and the claims fit the generators. -/
abbrev GeneratorsSafe (s : State) : Prop := (∀ g : Fin 8, (s.gen g).Fits) ∧ ClaimsFit s

/-! ## The source table (section 1.3, R29, R30, R33, R34) -/

/-- The run state of an edge-mode entry fits its state: a pending count outside IDLE and none in it, and a next count
in SENDING only. A hold-mode entry counts no edges and stays in IDLE (section 1.3). -/
abbrev SourceEntry.EdgeFits (e : SourceEntry) : Prop :=
  (e.isHold = true → e.edgeState = .idle) ∧ (e.pendingCount = 0 ↔ e.edgeState = .idle) ∧
    (e.edgeState ≠ .sending → e.nextCount = 0)

/-- The edge counts fit; an EDGE in the transmit list is never given up, and is that of an entry in LISTED before its first
win and in SENDING after it; an entry in LISTED or SENDING has its EDGE in the list; and an attempt is made at an entry
that has won (section 1.3, R13, R14, R133). -/
abbrev EdgesSafe (s : State) : Prop :=
  (∀ i : Fin 16, (s.source i).EdgeFits) ∧
    (∀ e ∈ s.tx, ∀ i : Fin 16, e.kind = .edge → e.producer = .source i →
      e.unwanted = false ∧ (s.source i).edgeState = if e.beenOnBus then .sending else .listed) ∧
    (∀ i : Fin 16, (s.source i).edgeState = .listed ∨ (s.source i).edgeState = .sending →
      ∃ e ∈ s.tx, e.kind = .edge ∧ e.producer = .source i) ∧
    ∀ st : BitVec 4, s.bus.activity = .attempting st → ∀ e ∈ s.tx.head?, e.beenOnBus = true

/-- What a source entry has collected: at most 4 distinct addresses, none of them the own address, and no own address in
the required set (R26, R30). -/
abbrev SourceEntry.CollectsFor (e : SourceEntry) (own : Addr) : Prop :=
  e.received.length ≤ 4 ∧ e.received.Nodup ∧ own ∉ e.received ∧ own ∉ e.required

/-- Every source entry's sets are as R26 and R30 leave them. -/
abbrev ReleasesSafe (s : State) : Prop := ∀ i : Fin 16, (s.source i).CollectsFor s.address

/-- The release timer runs in AWAITING and only there, the repeat timer only in SATISFIED (R29, R34), and a drop is
noted only in ANNOUNCING (R35; log entry 22). -/
abbrev SourceEntry.TimersFit (e : SourceEntry) : Prop :=
  (e.releaseTimer ≠ none ↔ e.holdState = .awaiting) ∧ (e.repeatTimer ≠ none → e.holdState = .satisfied) ∧
    (e.dropNoted = true → e.holdState = .announcing)

/-- The timers fit the hold states, and the fault kind ORPHANED is present exactly while an entry is ORPHANED (R33). -/
abbrev HoldsSafe (s : State) : Prop :=
  (∀ i : Fin 16, (s.source i).TimersFit) ∧
    (s.faults.orphaned = true ↔ ∃ i : Fin 16, (s.source i).holdState = .orphaned)

/-! ## The acceptance table (R42) -/

/-- A record is of a peer, and holds 1 to 4 duties (section 2.7, R42). -/
abbrev AcceptRecord.Sound (r : AcceptRecord) (own : Addr) : Prop :=
  r.sender ≠ own ∧ 1 ≤ r.duties.length ∧ r.duties.length ≤ 4

/-- Every record is sound, no two are of one sender and channel, and the age order lists every record once (R42). -/
abbrev AcceptanceSafe (s : State) : Prop :=
  (∀ j : Fin 8, ∀ r ∈ s.slot j, r.Sound s.address) ∧
    (∀ i j : Fin 8, ∀ q ∈ s.slot i, ∀ r ∈ s.slot j, q.sender = r.sender → q.channel = r.channel → i = j) ∧
    s.ageOrder.Nodup ∧ ∀ j : Fin 8, j ∈ s.ageOrder ↔ s.slot j ≠ none

/-! ## The bus interface (R139) -/

/-- The consecutive-failure count stays below 32: at 32 it is set to 0 (R139). -/
abbrev FailuresSafe (s : State) : Prop := s.bus.failures < 32

/-! ## The bytes of the image (sections 10.4, 10.4.2), each entry's bytes numbered from 0 -/

/-- The mode that a code names; 5–7 name none, and an entry whose origin is none can hold them (log entry 12). -/
def Mode.OfCode (m : Mode) (c : Nat) : Prop :=
  (c = 0 ∧ m = .edgeRise) ∨ (c = 1 ∧ m = .edgeFall) ∨ (c = 2 ∧ m = .edgeBoth) ∨ (c = 3 ∧ m = .holdHigh) ∨
    (c = 4 ∧ m = .holdLow) ∨ (5 ≤ c ∧ ∃ x : BitVec 3, x.toNat = c ∧ m = .reserved x)

/-- The origin that a code below 28 names, or none. -/
def Origin.OfCode (o : Origin) (c : Nat) : Prop :=
  (∃ n : Fin 16, c = n.val ∧ o = .input n) ∨ (∃ g : Fin 8, c = 16 + g.val ∧ o = .generator g) ∨
    (∃ k : Fin 4, c = 24 + k.val ∧ o = .counter k) ∨ (28 ≤ c ∧ o = .none)

/-- The kinds that a code names; 3 names none, and an unused entry can hold it (log entry 12). -/
def SubKinds.OfCode (k : SubKinds) (c : Nat) : Prop :=
  (c = 0 ∧ k = .edge) ∨ (c = 1 ∧ k = .hold) ∨ (c = 2 ∧ k = .either) ∨ (c = 3 ∧ k = .reserved)

/-- The group that a code names; 5–7 name none (log entry 12). -/
def SubGroup.OfCode (g : SubGroup) (c : Nat) : Prop :=
  (∃ m : Fin 4, c = m.val ∧ g = .member m) ∨ (c = 4 ∧ g = .always) ∨
    (5 ≤ c ∧ ∃ x : BitVec 3, x.toNat = c ∧ g = .reserved x)

/-- The release policy that a code names; 3 names none (log entry 12). -/
def ReleasePolicy.OfCode (p : ReleasePolicy) (c : Nat) : Prop :=
  (c = 0 ∧ p = .none) ∨ (c = 1 ∧ p = .immediate) ∨ (c = 2 ∧ p = .atIdle) ∨ (c = 3 ∧ p = .reserved)

/-- The eleven action kinds, each at its code. -/
def actionKinds : List ActionKind :=
  [.none, .fire, .stop, .select, .set, .clear, .toggle, .count, .reset, .enable, .disable]

/-- The action of a byte: bits 7–4 the kind, bits 2–0 the target, which NONE disregards; a kind 11–15 of an unused entry
is kept (log entry 12). -/
def Action.ReadFrom (a : Action) (b : Byte) : Prop :=
  (actionKinds[b.toNat / 16]? = some a.kind ∨
    (11 ≤ b.toNat / 16 ∧ ∃ x : BitVec 4, x.toNat = b.toNat / 16 ∧ a.kind = .reserved x)) ∧
    a.target.map Fin.val = if a.kind = .none then none else some (b.toNat % 8)

/-- The configuration of a source entry is that of its eight bytes. -/
def SourceEntry.ReadFrom (e : SourceEntry) (b : Nat → Byte) : Prop :=
  e.mode.OfCode ((b 0).toNat / 32) ∧ e.origin.OfCode ((b 0).toNat % 32) ∧ e.channel = b 1 ∧
    e.repeatFlag = (b 2).getLsbD 7 ∧ e.waiveLost = (b 2).getLsbD 6 ∧ e.quorum.toNat = (b 2).toNat % 8 ∧
    e.repeatDelay = b 3 ∧
    ∀ r : Fin 4, look e.releasers r =
      if (b (4 + r.val)).getLsbD 7 then some (BitVec.ofNat 5 (b (4 + r.val)).toNat) else none

/-- A subscription is that of its six bytes. -/
def Subscription.ReadFrom (e : Subscription) (b : Nat → Byte) : Prop :=
  e.channel = b 0 ∧ e.sender = (if (b 1).getLsbD 2 then none else some (BitVec.ofNat 5 ((b 1).toNat / 8))) ∧
    e.kinds.OfCode ((b 1).toNat % 4) ∧ e.group.OfCode ((b 2).toNat / 32) ∧ e.policy.OfCode ((b 2).toNat / 8 % 4) ∧
    e.action.ReadFrom (b 3) ∧ e.clearAction.ReadFrom (b 4) ∧ e.param.map Fin.val = some ((b 5).toNat % 16)

/-- A profile is that of its eight bytes; a time unit code above 3 is refused (R71, R182). -/
def Profile.ReadFrom (p : Profile) (b : Nat → Byte) : Prop :=
  p.delay = b 0 ++ b 1 ∧ p.width = b 2 ++ b 3 ∧ p.gap = b 4 ++ b 5 ∧ p.count = b 6 ∧
    (b 7 = 0 → p.unit = .us1) ∧ (b 7 = 1 → p.unit = .us10) ∧ (b 7 = 2 → p.unit = .us100) ∧ (b 7 = 3 → p.unit = .ms1)

/-- The configuration of a generator is that of its two bytes; retrigger policy 3 is refused (R182). -/
def Generator.ReadFrom (e : Generator) (b : Nat → Byte) : Prop :=
  e.initial.val = (b 0).toNat / 16 ∧
    e.target.map Fin.val = (if (b 0).getLsbD 3 then some ((b 0).toNat % 8) else none) ∧
    e.activeHigh = (b 1).getLsbD 7 ∧ ((b 1).toNat / 32 % 4 = 0 → e.policy = .ignore) ∧
    ((b 1).toNat / 32 % 4 = 1 → e.policy = .restart) ∧ ((b 1).toNat / 32 % 4 = 2 → e.policy = .stack) ∧
    e.autostart = (b 1).getLsbD 4

/-! ## Validation (R182) -/

/-- The source entry `i` of the image is a hold-mode entry in use: mode 3 or 4 and an origin (R6; log entry 17). -/
def HoldInUse (b : Nat → Nat) (i : Nat) : Prop :=
  (b (11 + 8 * i) / 32 = 3 ∨ b (11 + 8 * i) / 32 = 4) ∧ b (11 + 8 * i) % 32 < 28

/-- An action byte names no action: a kind 11–15, or a counter or group 4–7. -/
def BadAction (x : Nat) : Prop := 11 ≤ x / 16 ∨ (7 ≤ x / 16 ∧ x / 16 ≤ 10 ∧ 4 ≤ x % 8)

/-- Source entry `i` breaks a check of R182. -/
def BreaksSource (b : Nat → Nat) (i : Nat) : Prop :=
  let origin := b (11 + 8 * i) % 32
  let quorum := b (13 + 8 * i) % 8
  (28 ≤ origin ∧ origin ≤ 30) ∨ (origin ≠ 31 ∧ (5 ≤ b (11 + 8 * i) / 32 ∨ b (12 + 8 * i) = 0)) ∨
    (HoldInUse b i ∧
      (5 ≤ quorum ∨ (quorum = 0 ∧ ∀ r < 4, b (15 + 8 * i + r) < 128) ∨
        (24 ≤ origin ∧ b (475 + 3 * (origin - 24) + 2) < 128) ∨
        ∃ j < i, HoldInUse b j ∧ b (12 + 8 * j) = b (12 + 8 * i)))

/-- Subscription `k` breaks a check of R182. -/
def BreaksSub (b : Nat → Nat) (k : Nat) : Prop :=
  b (139 + 6 * k) ≠ 0 ∧
    (b (140 + 6 * k) % 4 = 3 ∨ 5 ≤ b (141 + 6 * k) / 32 ∨ b (141 + 6 * k) / 8 % 4 = 3 ∨ BadAction (b (142 + 6 * k)) ∨
      BadAction (b (143 + 6 * k)))

/-- Index `n` of the part with table code `t` breaks a check of R182; `b` gives the bytes of the image as numbers. -/
def Breaks (b : Nat → Nat) (t n : Nat) : Prop :=
  (t = 7 ∧ n = 5 ∧ (b 5 = 0 ∨ 100 < b 5)) ∨ (t = 7 ∧ n = 6 ∧ (b 6 = 0 ∨ 15 < b 6)) ∨ (t = 7 ∧ n = 7 ∧ b 7 = 0) ∨
    (t = 7 ∧ n = 8 ∧ 0x20 ≤ b 8 ∧ b 8 ≤ 0xFE) ∨ (t = 0 ∧ n < 16 ∧ BreaksSource b n) ∨
    (t = 1 ∧ n < 32 ∧ BreaksSub b n) ∨
    (t = 2 ∧ n < 16 ∧
      (256 * b (333 + 8 * n) + b (334 + 8 * n) = 0 ∨ 256 * b (335 + 8 * n) + b (336 + 8 * n) = 0 ∨
        3 < b (338 + 8 * n))) ∨
    (t = 3 ∧ n < 8 ∧ b (460 + 2 * n) / 32 % 4 = 3) ∨
    (t = 4 ∧ n < 4 ∧ 256 * b (475 + 3 * n) + b (476 + 3 * n) = 0)

/-- The order in which R182 takes the checks: the parts in the order of the image, which puts the header, table code 7,
first, and the entries of a part in ascending index. -/
def CheckedBefore (t n t' n' : Nat) : Prop := (t + 1) % 8 < (t' + 1) % 8 ∨ (t = t' ∧ n < n')

/-! ## The data of reports (R168, R169, section 9.2.1) -/

/-- The station states, each at its code (section 9.2.1). -/
def stationCodes : List StationState := [.offline, .listening, .joining, .joined, .withdrawn, .conflict]

/-- The modes of a source entry, each at its code. -/
def modeCodes : List Mode := [.edgeRise, .edgeFall, .edgeBoth, .holdHigh, .holdLow]

/-- The edge states, each at its code. -/
def edgeCodes : List EdgeState := [.idle, .owed, .listed, .sending]

/-- The hold states, each at its code. -/
def holdCodes : List HoldState := [.quiet, .announcing, .awaiting, .orphaned, .satisfied, .ending]

/-- The record states, each at its code. -/
def recordCodes : List RecordState := [.acting, .releaseOwed, .releaseListed, .releaseSending, .released]

/-- The generator phases, each at its code. -/
def phaseCodes : List GenPhase := [.idle, .delay, .pulse, .gap]

/-- The presence states, each at its code. -/
def presenceCodes : List Presence := [.unknown, .present, .lost, .self]

/-- Some hold-mode entry has its condition asserted (R119). -/
abbrev SomeHold (s : State) : Prop := ∃ i : Fin 16, (s.source i).isHold = true ∧ (s.source i).condition = true

/-- SUMMARY, and the replies of FAULT-RESET and RESTART. -/
def ShowsSummary (s : State) (d0 d1 d2 : Nat) : Prop :=
  stationCodes[d0 / 32]? = some s.bus.station ∧ d0 / 4 % 8 = s.loader.reason.toNat ∧
    (d0.testBit 1 = true ↔ SomeHold s) ∧ d0.testBit 0 = s.flt ∧ d1.testBit 7 = s.faults.withdrawn ∧
    d1.testBit 6 = s.faults.orphaned ∧ d1.testBit 5 = s.faults.addressConflict ∧ d1.testBit 4 = s.faults.undelivered ∧
    d1.testBit 3 = s.faults.acceptOverflow ∧ d1.testBit 2 = s.faults.lostEdges ∧ d1.testBit 1 = s.faults.collision ∧
    d1.testBit 0 = s.faults.imageMismatch ∧
    d2 = if s.loader.reason = 4 then 32 * s.loader.failTable.toNat + s.loader.failIndex.toNat else 0

/-- SOURCE, state page; for a reserved mode code, which only an entry whose origin is none can hold, bytes 1 and 2 are
not stated (log entry 11). -/
def ShowsSource (e : SourceEntry) (d0 d1 d2 : Nat) : Prop :=
  e.origin.OfCode (d0 % 32) ∧ (e.origin = .none → d0 % 32 = 31) ∧
    (e.mode ∈ modeCodes → modeCodes[d0 / 32]? = some e.mode) ∧
    (e.mode = .edgeRise ∨ e.mode = .edgeFall ∨ e.mode = .edgeBoth →
      edgeCodes[d1 / 64]? = some e.edgeState ∧ (d1.testBit 5 = true ↔ e.lastDir = .rise) ∧ d1.testBit 4 = false ∧
      d1 % 16 = e.pendingCount.toNat ∧ d2 = 16 * e.nextCount.toNat) ∧
    (e.mode = .holdHigh ∨ e.mode = .holdLow →
      holdCodes[d1 / 32]? = some e.holdState ∧ d1.testBit 4 = e.condition ∧ d1 % 16 = e.inst.toNat ∧
      d2 / 64 = e.reannounces.toNat ∧ d2.testBit 5 = e.announced ∧ d2.testBit 4 = e.releaseTimer.isSome ∧
      d2.testBit 3 = e.repeatTimer.isSome ∧ d2 % 8 = 0)

/-- SOURCE, releases page: four fields of a present bit and an address, 0 where absent. -/
def ShowsReleases (e : SourceEntry) (d0 d1 d2 : Nat) : Prop :=
  ∀ n : Fin 4, (65536 * d0 + 256 * d1 + d2) / 2 ^ (18 - 6 * n.val) % 64 =
    match e.received[n.val]? with
    | some a => 32 + a.toNat
    | none => 0

/-- ACCEPT, record page of slot `j`. -/
def ShowsRecord (s : State) (j : Fin 8) (d0 d1 d2 : Nat) : Prop :=
  match s.slot j with
  | none => d0 = 0 ∧ d1 = 0 ∧ d2 = 0
  | some r =>
    d0.testBit 7 = true ∧ recordCodes[d0 / 16 % 8]? = some r.state ∧ d0 % 16 = r.inst.toNat ∧ d1 = r.channel.toNat ∧
      d2 / 8 = r.sender.toNat ∧ s.ageOrder[d2 % 8]? = some j

/-- ACCEPT, duty page of slot `j`. -/
def ShowsDuties (s : State) (j : Fin 8) (d0 d1 d2 : Nat) : Prop :=
  match s.slot j with
  | none => d0 = 0 ∧ d1 = 0 ∧ d2 = 0
  | some r =>
    d0 / 64 + 1 = r.duties.length ∧ d0 / 16 % 4 = r.releaseListed.toNat ∧ d2 = 0 ∧
      ∀ n : Fin 4, d0.testBit (3 - n.val) = r.duties[n.val]?.any (fun w => w.done) ∧
        d1.testBit (7 - n.val) = r.duties[n.val]?.any (fun w => w.awaited.isSome) ∧
        d1.testBit (3 - n.val) = r.duties[n.val]?.any (fun w => w.awaiting)

/-- GENERATOR; 0 for an absent pending profile is the model's choice (log entry 32). -/
def ShowsGenerator (e : Generator) (d0 d1 d2 : Nat) : Prop :=
  phaseCodes[d0 / 64]? = some e.phase ∧ d0.testBit 5 = e.pendingTrigger ∧ d0.testBit 4 = e.shadowed ∧
    d0 % 16 = e.activeNumber.val ∧ d1.testBit 7 = e.pendingProfile.isSome ∧
    (d1.testBit 6 = true ↔ e.remaining = .unending) ∧ d1 / 16 % 4 = 0 ∧
    d1 % 16 = (e.pendingProfile.map Fin.val).getD 0 ∧
    d2 = match e.remaining with
      | .pulses n => n.toNat
      | .unending => 0

/-- ROSTER, entry page; 0 for an absent last sequence is the model's choice (log entry 32). -/
def ShowsRoster (e : RosterEntry) (d0 d1 d2 : Nat) : Prop :=
  presenceCodes[d0 / 64]? = some e.state ∧ d0 / 16 % 4 = e.silence.toNat ∧ d0.testBit 3 = e.lastSeq.isSome ∧
    d0.testBit 2 = e.signature.isSome ∧ d0 % 4 = 0 ∧ d1 = (e.lastSeq.map BitVec.toNat).getD 0 ∧ d2 = e.freshJoins.toNat

/-- OUTPUTS, owners of the four lines from OUT `o` on. -/
def ShowsOwners (s : State) (o : Nat) (d0 d1 d2 : Nat) : Prop :=
  (∀ (n : Fin 4) (l : Fin 8), l.val = o + n.val →
    (256 * d0 + d1) / 2 ^ (12 - 4 * n.val) % 16 =
      match (s.out l).owner with
      | some g => 8 + g.val
      | none => 0) ∧
    ∀ l : Fin 8, l.val = o → d2 = 128 * (s.out l).forcedSafe.toNat

/-- The three data bytes of a REPORT, as numbers, show the item and index in range (section 9.2.1). -/
def Shows (s : State) (item index : Nat) (d0 d1 d2 : Nat) : Prop :=
  (item = 0 ∨ item = 9 ∨ item = 10 → ShowsSummary s d0 d1 d2) ∧
    (∀ i : Fin 16, item = 1 → index = i.val → ShowsSource (s.source i) d0 d1 d2) ∧
    (∀ i : Fin 16, item = 1 → index = 16 + i.val → ShowsReleases (s.source i) d0 d1 d2) ∧
    (∀ j : Fin 8, item = 2 → index = j.val → ShowsRecord s j d0 d1 d2) ∧
    (∀ j : Fin 8, item = 2 → index = 8 + j.val → ShowsDuties s j d0 d1 d2) ∧
    (∀ g : Fin 8, item = 3 → index = g.val → ShowsGenerator (s.gen g) d0 d1 d2) ∧
    (∀ c : Fin 4, item = 4 → index = c.val →
      256 * d0 + d1 = (s.counter c).value.toNat ∧ d2.testBit 7 = (s.counter c).stick ∧
      (d2.testBit 6 = true ↔ (s.counter c).value = (s.counter c).terminal) ∧ d2 % 64 = 0) ∧
    (∀ c : Fin 4, item = 4 → index = 4 + c.val →
      256 * d0 + d1 = (s.counter c).terminal.toNat ∧ d2 = 128 * (s.counter c).stick.toNat) ∧
    (∀ a : Fin 32, item = 5 → index = a.val → ShowsRoster (look s.roster a) d0 d1 d2) ∧
    (∀ a : Fin 32, item = 5 → index = 32 + a.val →
      256 * d0 + d1 = (((look s.roster a).signature.map (fun x => 32768 + x.toNat)).getD 0) ∧ d2 = 0) ∧
    (∀ n : Fin 10, item = 6 → index = n.val → d0 = (look s.tallies n).toNat ∧ d1 = 0 ∧ d2 = 0) ∧
    (item = 7 → index = 0 → ∀ o : Fin 8, d0.testBit o.val = s.shown o ∧ d1.testBit o.val = (s.out o).static ∧
      d2.testBit o.val = (s.out o).safe) ∧
    (item = 7 → index = 1 → ShowsOwners s 0 d0 d1 d2) ∧ (item = 7 → index = 2 → ShowsOwners s 4 d0 d1 d2) ∧
    (item = 8 → (∀ m : Fin 4, d0.testBit m.val = look s.groups m) ∧ d0 < 16 ∧ d1 = 0 ∧ d2 = 0)

end Sys2Proof.Machine
end

