-- ==== Sys2Proof/Certificates/Slice0/Obligations.lean ====
section
/-! DEFINITION. The statements about the model, for the provers. Where an answer is given as a state followed by
`settle`, that state is the effect of the command and `settle` is admission and the start of a contention; what they can
change is a statement of its own (AdmissionLeavesTheRest, AdmissionFillsTheList). -/

open Sys2Proof Sys2Proof.Machine

/-! ## The step -/

/-- A step is the command at the front of the queue, run on the state with the queue's rest. -/
def Obligations.StepRunsFrontCommand : Prop :=
  ∀ (c : Instr) (rest : List Instr) (s : State),
    step { s with pending := c :: rest } = exec c { s with pending := rest }

/-- On an empty queue one microsecond passes and the timers that are due then put their expiry commands into the queue,
each once: the loader's, the stability, release, repeat and phase timers, the hold-off and the beacon interval. That a
step on an empty queue is a tick is the model's choice (log entry 4). -/
def Obligations.EmptyQueueTicks : Prop :=
  ∀ s : State, s.pending = [] →
    let now := s.time + 1
    let due := s.dueExpiries now
    let ended (t : Timer) : Prop := ∃ d ∈ t, d ≤ now
    step s = .next { s with time := now, pending := due } ∧ due.Nodup ∧
    ∀ c : Instr, c ∈ due ↔
      (c = .resetHoldExpiry ∧ s.loader.phase = .resetHold ∧ ended s.loader.timer) ∨
      (c = .passRetryWaitExpiry ∧ s.loader.phase = .reading ∧ s.loader.port = .deselected ∧ ended s.loader.timer) ∨
      (∃ n, c = .stabilityIntervalExpiry n ∧ ended (s.input n).stability) ∨
      (∃ i, c = .releaseTimerExpiry i ∧ ended (s.source i).releaseTimer) ∨
      (∃ i, c = .repeatTimerExpiry i ∧ ended (s.source i).repeatTimer) ∨
      (∃ g, ended (s.gen g).timer ∧
        ((c = .delayExpiry g ∧ (s.gen g).phase = .delay) ∨ (c = .pulseExpiry g ∧ (s.gen g).phase = .pulse) ∨
          (c = .gapExpiry g ∧ (s.gen g).phase = .gap))) ∨
      (c = .holdOffExpiry ∧ ended s.bus.holdOff) ∨ (c = .beaconIntervalExpiry ∧ ended s.beacon.timer)

/-! ## Start-up -/

/-- FULL_RESET: the straps are taken and every block has its reset values (R177, R185 and the reset rules they name).
The pin levels and the queue are kept (log entry 26). -/
def Obligations.FullResetTakesStrapsAndClears : Prop :=
  ∀ (adr : Addr) (rate : BitVec 2) (s : State), ∃ t : State,
    exec (.fullReset adr rate) s = .next t ∧
    t.address = adr ∧ t.rate = rate ∧ t.time = 0 ∧ t.pins = s.pins ∧ t.pending = s.pending ∧
    t.bus.station = .offline ∧ t.bus.standing = 15 ∧ t.bus.sequence = 0 ∧ t.bus.failures = 0 ∧ t.bus.fresh = true ∧
    t.bus.holdOff = none ∧ t.bus.phase = .waitingIdle ∧ t.bus.activity = .idle ∧ t.tx = [] ∧
    t.beacon.timer = none ∧ t.beacon.won = false ∧ t.beacon.owesJoin = false ∧ t.beacon.owesPresence = false ∧
    (∀ k, t.faults.has k = false) ∧ t.flt = false ∧ (∀ n, look t.tallies n = 0) ∧
    (∀ n, t.input n = { invert := false, filterTime := 0, filtered := false, stability := none }) ∧
    (∀ i, t.source i = SourceEntry.reset) ∧ (∀ j, t.slot j = none) ∧ t.ageOrder = [] ∧
    (∀ k, t.sub k = Subscription.reset) ∧ (∀ m, look t.groups m = false) ∧
    (∀ p, look t.profiles p = { delay := 0, width := 1, gap := 1, count := 1, unit := .us1 }) ∧
    (∀ g, t.gen g = Generator.reset) ∧
    (∀ o, t.out o = { static := false, owner := none, safe := false, forcedSafe := true }) ∧
    (∀ c, t.counter c = { value := 0, terminal := 65535, stick := false }) ∧
    t.reply = none ∧ t.maintenance = none ∧
    (∀ a, look t.roster a =
      { state := if a = addrIdx adr then .self else .unknown, silence := 0, lastSeq := none, signature := none,
        freshJoins := 0 }) ∧
    t.loader.phase = .resetHold ∧ t.loader.passCount = 0 ∧ t.loader.reason = 0 ∧ t.loader.failTable = 0 ∧
    t.loader.failIndex = 0 ∧ t.loader.signature = none ∧ t.loader.buffer = [] ∧ t.loader.port = .holdLevels ∧
    t.loader.timer = some 1000

/-- RESET_HOLD_EXPIRY and PASS_RETRY_WAIT_EXPIRY begin a read pass: the pass count increases, the running CRC is FFFFh, the
buffer is discarded, MCS is low, and MDO shows the read command 03h and the address 0000h (R178, R179, R180). The rest of
the station stays but for the time base, which an expiry command takes to its timer's end: the model's choice (log
entry 3). -/
def Obligations.ExpiryBeginsReadPass : Prop :=
  ∀ (s : State) (d : Nat), s.loader.timer = some d →
    let u : State :=
      { s with
        time := max s.time d
        loader := { s.loader with
          phase := .reading, passCount := s.loader.passCount + 1, crc := 0xFFFF, buffer := [], port := .selected,
          timer := some (max s.time d + 112) } }
    (s.loader.phase = .resetHold → exec .resetHoldExpiry s = .next u) ∧
    (s.loader.phase = .reading → s.loader.port = .deselected → exec .passRetryWaitExpiry s = .next u) ∧
    u.loader.port.mcs = false ∧ u.loader.mdo = [0x03, 0x00, 0x00] ∧
    ∀ l : Loader, l.port ≠ .selected → l.port.mcs = true ∧ l.mdo = []

/-- HEADER_CHECK: a correct header lets the pass go on; a faulty one ends it, for a retry in 10 µs before the third pass
and for FAILED at the third, with the reason of R180 and the station LISTENING with its defaults: a hold-off of 200 ms, a
beacon interval of 100 ms, retry limit 8, both options clear and no maintenance address (R140, R152, R180, R181, R184).
The premise that the defaults hold until the loader ends is the model's choice of reset values (log entry 7), and an
invariant that every step keeps; that the time base goes to the end of the pass is its choice too (log entry 3). -/
def Obligations.HeaderCheckJudgesTheHeader : Prop :=
  ∀ (s : State) (h : Vector Byte 11) (d : Nat),
    s.loader.phase = .reading → s.loader.port = .selected → s.loader.buffer = [] → s.loader.timer = some d →
    DefaultsSafe s →
    let t := max s.time d
    let correct := h[0] = 0x4F ∧ h[1] = 0x4A ∧ h[2] = 0x01 ∧ h[3] = 0x02 ∧ h[4] = 0x01
    let blank := (h[0] = 0xFF ∧ h[1] = 0xFF) ∨ (h[0] = 0x00 ∧ h[1] = 0x00)
    let taken : Loader := { s.loader with buffer := h.toList, crc := crcBytes s.loader.crc h.toList }
    let own := addrIdx s.address
    (correct →
      exec (.headerCheck h) s = .next { s with time := t, loader := { taken with timer := some (t + 4016) } }) ∧
    (¬correct → s.loader.passCount < 3 →
      exec (.headerCheck h) s =
        .next { s with time := t, loader := { taken with port := .deselected, timer := some (t + 10) } }) ∧
    (∀ reason : BitVec 3, ¬correct → 3 ≤ s.loader.passCount → (blank ∧ reason = 1) ∨ (¬blank ∧ reason = 3) →
      ∃ u : State, exec (.headerCheck h) s = .next u ∧
      u = { s with
        time := t
        loader := { taken with
          phase := .failed, reason := reason, failTable := 0, failIndex := 0, signature := some 0, timer := none,
          port := .deselected }
        faults := { s.faults with configFailed := true, withdrawn := false }
        roster := upd s.roster own { look s.roster own with signature := some 0 }
        bus := { s.bus with
          station := .listening, standing := 15, holdOff := some (t + 200000), phase := .waitingIdle }
        beacon := { s.beacon with timer := some (t + 100000) }
        outs := s.outs.map (fun l => { l with forcedSafe := false }) } ∧
      u.flt = true ∧ u.bus.beaconInterval = 10 ∧ u.bus.retryLimit = 8 ∧ u.bus.safeOnWithdraw = false ∧
      u.bus.requireCommonImage = false ∧ u.maintenance = none)

/-- READ_PASS_END with a wrong CRC, or with an image that validation refuses (R180, R184); and which images validation
refuses: the one whose first entry that breaks a check, part by part in the order of the image, has that table code and
index (R182). That a hold-mode entry whose origin is none does not take the channel of a later one is the model's reading
of R182 (log entry 17), and that the time base goes to the end of the pass its choice (log entry 3). -/
def Obligations.ReadPassEndRefusesAnImage : Prop :=
  (∀ (s : State) (body : Vector Byte 502) (d : Nat),
    s.loader.phase = .reading → s.loader.port = .selected → s.loader.buffer.length = 11 → s.loader.timer = some d →
    let t := max s.time d
    let img := s.loader.buffer ++ body.toList
    let crc := crcBytes s.loader.crc (body.toList.take 500)
    (crc ≠ imageCrc img → s.loader.passCount < 3 →
      exec (.readPassEnd body) s =
        .next { s with
          time := t
          loader := { s.loader with phase := .reading, port := .deselected, buffer := img, crc := crc,
                                    timer := some (t + 10) } }) ∧
    (crc ≠ imageCrc img → 3 ≤ s.loader.passCount → ∃ u : State,
      exec (.readPassEnd body) s = .next u ∧ u.loader.phase = .failed ∧ u.loader.reason = 2 ∧
      u.loader.signature = some 0 ∧ u.faults.configFailed = true ∧ u.bus.station = .listening ∧
      u.sources = s.sources ∧ u.subs = s.subs ∧ u.gens = s.gens ∧ u.counters = s.counters) ∧
    (∀ (table : BitVec 3) (index : BitVec 5), crc = imageCrc img → validate img = some (table, index) → ∃ u : State,
      exec (.readPassEnd body) s = .next u ∧ u.loader.phase = .failed ∧ u.loader.reason = 4 ∧
      u.loader.failTable = table ∧ u.loader.failIndex = index ∧ u.loader.signature = some 0 ∧
      u.faults.configFailed = true ∧ u.bus.station = .listening ∧ u.sources = s.sources ∧ u.subs = s.subs ∧
      u.gens = s.gens ∧ u.counters = s.counters ∧ u.groups = s.groups)) ∧
  ∀ img : List Byte,
    let b (k : Nat) := (imgByte img k).toNat
    (validate img = none ↔ ∀ t n : Nat, ¬Breaks b t n) ∧
    ∀ (table : BitVec 3) (index : BitVec 5), validate img = some (table, index) ↔
      Breaks b table.toNat index.toNat ∧
        ∀ t n : Nat, CheckedBefore t n table.toNat index.toNat → ¬Breaks b t n

/-- READ_PASS_END with a correct and valid image: READY, with every table filled from the bytes of the image, the
conditions of the hold-mode entries evaluated, each asserted one at instance 0, the signature set, the station
LISTENING, and one trigger for each autostart generator (R4, R10, R20, R75, R93, R140, R181, R183). A hold-mode entry
follows the busy level of an autostart generator: HOLD-HIGH starts instance 0 at it, and HOLD-LOW, which READY finds
asserted, retracts instance 0 (R35). Which of two autostart generators gets a line is the free value of log entry 10; that
unused entries keep the reserved codes they are loaded with is the model's reading (log entry 12), and that the time base
goes to the end of the pass its choice (log entry 3). -/
def Obligations.ReadPassEndReachesReady : Prop :=
  ∀ (s : State) (body : Vector Byte 502) (d : Nat),
    s.loader.phase = .reading → s.loader.port = .selected → s.loader.buffer.length = 11 → s.loader.timer = some d →
    AdmissionSafe s →
    let t := max s.time d
    let img := s.loader.buffer ++ body.toList
    let part (base size i : Nat) : Nat → Byte := fun k => imgByte img (base + size * i + k)
    let sig : Signature := (imageCrc img).extractLsb' 0 15
    let own := addrIdx s.address
    crcBytes s.loader.crc (body.toList.take 500) = imageCrc img → validate img = none → ∃ u : State,
      exec (.readPassEnd body) s = .next u ∧ u.loader.phase = .ready ∧ u.loader.signature = some sig ∧ u.time = t ∧
      u.tx = [] ∧ u.bus.station = .listening ∧ u.bus.phase = .waitingIdle ∧ u.bus.standing = 15 ∧
      u.bus.holdOff = some (t + 2 * ((imgByte img 5).toNat * 10000)) ∧
      u.beacon.timer = some (t + (imgByte img 5).toNat * 10000) ∧ u.bus.beaconInterval = imgByte img 5 ∧
      u.bus.retryLimit.toNat = (imgByte img 6).toNat ∧ u.releaseTimeout = imgByte img 7 ∧
      u.bus.safeOnWithdraw = (imgByte img 10).getLsbD 0 ∧ u.bus.requireCommonImage = (imgByte img 10).getLsbD 1 ∧
      u.maintenance = (if imgByte img 8 = 0xFF then none else some (BitVec.ofNat 5 (imgByte img 8).toNat)) ∧
      (∀ a, look u.roster a =
        if a = own then { look s.roster a with signature := some sig } else look s.roster a) ∧
      (∀ m : Fin 4, look u.groups m = (imgByte img 9).getLsbD m.val) ∧
      (∀ k, (u.sub k).ReadFrom (part 139 6 k.val)) ∧ (∀ p, (look u.profiles p).ReadFrom (part 331 8 p.val)) ∧
      (∀ c, (u.counter c).value = 0 ∧ (u.counter c).terminal = part 475 3 c.val 0 ++ part 475 3 c.val 1 ∧
        (u.counter c).stick = (part 475 3 c.val 2).getLsbD 7) ∧
      (∀ n, (u.input n).invert = (part 487 1 n.val 0).getLsbD 7 ∧
        (u.input n).filterTime.toNat = (part 487 1 n.val 0).toNat % 128 ∧
        (u.input n).filtered = (look s.pins n != (u.input n).invert) ∧ (u.input n).stability = none) ∧
      (∀ o, (u.out o).static = (part 503 1 o.val 0).getLsbD 7 ∧ (u.out o).safe = (part 503 1 o.val 0).getLsbD 6 ∧
        (u.out o).forcedSafe = false) ∧
      (∀ i,
        let e := u.source i
        let level :=
          match e.origin with
          | .input n => (u.input n).filtered
          | .generator g => (u.gen g).autostart
          | .counter _ | .none => false
        let started := e.isHold = true ∧ (e.condition = true ∨ (e.mode = .holdLow ∧ ∃ g, e.origin = .generator g))
        e.ReadFrom (part 11 8 i.val) ∧ e.edgeState = .idle ∧ e.pendingCount = 0 ∧ e.nextCount = 0 ∧
        e.lastDir = .rise ∧ e.received = [] ∧ e.reannounces = 0 ∧ e.announced = false ∧ e.predOpen = false ∧
        e.dropNoted = false ∧ e.releaseTimer = none ∧ e.repeatTimer = none ∧
        (e.condition = true ↔
          e.isHold = true ∧ ((e.mode = .holdHigh ∧ level = true) ∨ (e.mode = .holdLow ∧ level = false))) ∧
        e.holdState = (if e.condition then .announcing else .quiet) ∧
        (started → e.inst = 0 ∧ e.required = s.requiredFor e) ∧ (¬started → e.inst = 15 ∧ e.required = [])) ∧
      (∀ g,
        let e := u.gen g
        let p := look u.profiles e.initial
        e.ReadFrom (part 459 2 g.val) ∧ e.activeNumber = e.initial ∧ e.active = p ∧ e.pendingProfile = none ∧
        e.pendingTrigger = false ∧
        (e.autostart = false → e.phase = .idle ∧ e.timer = none ∧ e.remaining = .pulses 0 ∧ e.shadowed = false) ∧
        (e.autostart = true →
          e.remaining = (if p.count = 0 then .unending else .pulses p.count) ∧
          (p.delay ≠ 0 →
            e.phase = .delay ∧ e.timer = some (t + p.delay.toNat * p.unit.us) ∧ e.shadowed = false) ∧
          (p.delay = 0 → e.phase = .pulse ∧ e.timer = some (t + p.width.toNat * p.unit.us))) ∧
        (e.shadowed = true → ∃ o h, e.target = some o ∧ h ≠ g ∧ (u.out o).owner = some h) ∧
        ∀ o, (u.out o).owner = some g ↔ e.phase = .pulse ∧ e.target = some o ∧ e.shadowed = false)

/-! ## Inputs and edges -/

/-- INPUT_PIN_CHANGE: the conditioned level follows the pin; a departure from the filtered level starts a stability
interval of the filter time, a return abandons it, and with filter time 0 the filtered level changes at once, an edge and
a level at the source entries (R2, R3, R4, R5). -/
def Obligations.PinChangeDrivesTheFilter : Prop :=
  ∀ (n : Fin 16) (level : Bool) (s : State),
    let l := s.input n
    let p : State := { s with pins := upd s.pins n level }
    let c := level != l.invert
    (s.loader.phase ≠ .ready → exec (.inputPinChange n level) s = .next p) ∧
    (s.loader.phase = .ready → c = l.filtered →
      exec (.inputPinChange n level) s = .next { p with inputs := upd s.inputs n { l with stability := none } }) ∧
    (s.loader.phase = .ready → c ≠ l.filtered → l.filterTime ≠ 0 → l.stability = none →
      exec (.inputPinChange n level) s =
        .next { p with
          inputs := upd s.inputs n { l with stability := some (s.time + l.filterTime.toNat * 50) } }) ∧
    (s.loader.phase = .ready → c ≠ l.filtered → l.filterTime ≠ 0 → l.stability ≠ none →
      exec (.inputPinChange n level) s = .next p) ∧
    (s.loader.phase = .ready → c ≠ l.filtered → l.filterTime = 0 → ∃ t : State,
      exec (.inputPinChange n level) s = .next t ∧ t.input n = { l with filtered := c, stability := none } ∧
      t.pins = upd s.pins n level ∧
      t = State.settle
        (({ p with inputs := upd s.inputs n { l with filtered := c, stability := none } }.presentEdge (.input n)
          (if c then .rise else .fall)).presentLevel (.input n) c))

/-- STABILITY_INTERVAL_EXPIRY with the conditioned level still different: the filtered level changes, edge-mode entries
on the line count the edge their mode counts, in each of their states, and the level reaches the hold-mode entries on it;
nothing else of the origins, the lines or the roster changes (R3, R5, R11). Second, what a level does at the source table,
whatever the origin: at each hold-mode entry on it the level, or for HOLD-LOW its inverse, is a change of the condition or
none, and nothing else changes but the HOLDs that a drop withdraws and the fault kind ORPHANED (R5, R8, R9, R10). That the
time base goes to the end of the interval is the model's choice (log entry 3). -/
def Obligations.StabilityExpiryChangesTheFilteredLevel : Prop :=
  (∀ (n : Fin 16) (s : State) (d : Nat),
    let l := s.input n
    let c := look s.pins n != l.invert
    let dir : Direction := if c then .rise else .fall
    let seen : State := { s with
      time := max s.time d
      inputs := upd s.inputs n { l with filtered := c, stability := none } }
    l.stability = some d → c ≠ l.filtered → ∃ t : State,
      exec (.stabilityIntervalExpiry n) s = .next t ∧ t.time = max s.time d ∧
      t.inputs = upd s.inputs n { l with filtered := c, stability := none } ∧
      t = ((seen.presentEdge (.input n) dir).presentLevel (.input n) c).settle ∧
      (∀ i, (s.source i).origin = .input n → (s.source i).mode.counts (.input n) dir = true →
        ((s.source i).edgeState = .idle →
          (t.source i).pendingCount = 1 ∧ (t.source i).lastDir = dir ∧ (t.source i).edgeState ≠ .idle) ∧
        ((s.source i).edgeState = .owed ∨ (s.source i).edgeState = .listed →
          (t.source i).pendingCount = satInc (s.source i).pendingCount ∧ (t.source i).lastDir = dir) ∧
        ((s.source i).edgeState = .sending →
          (t.source i).nextCount = satInc (s.source i).nextCount ∧ (t.source i).lastDir = dir ∧
          (t.source i).pendingCount = (s.source i).pendingCount ∧ (t.source i).edgeState = .sending)) ∧
      (∀ i, (s.source i).origin = .input n → (s.source i).isHold = true →
        ((t.source i).condition = true ↔ (s.source i).mode = .holdHigh ∧ c = true ∨
          (s.source i).mode = .holdLow ∧ c = false)) ∧
      (∀ i, (s.source i).origin ≠ .input n →
        t.source i = { s.source i with edgeState := (t.source i).edgeState }) ∧
      t.gens = s.gens ∧ t.outs = s.outs ∧ t.counters = s.counters ∧ t.groups = s.groups ∧ t.roster = s.roster ∧
      t.subs = s.subs ∧ t.profiles = s.profiles ∧ t.loader = s.loader ∧ t.pins = s.pins ∧ t.address = s.address) ∧
  ∀ (s : State) (o : Origin) (level : Bool),
    let t := s.presentLevel o level
    let asserted (e : SourceEntry) : Prop :=
      (e.mode = .holdHigh ∧ level = true) ∨ (e.mode = .holdLow ∧ level = false)
    let withdrawn (i : Fin 16) : Prop :=
      (s.source i).origin = o ∧ (s.source i).isHold = true ∧ (s.source i).condition = true ∧ ¬asserted (s.source i) ∧
        (s.source i).holdState = .announcing ∧ s.holdOnBus i = false
    t = { s with sources := t.sources, tx := t.tx, faults := { s.faults with orphaned := t.faults.orphaned } } ∧
    (∀ i, (s.source i).origin ≠ o ∨ (s.source i).isHold = false → t.source i = s.source i) ∧
    (∀ i, (s.source i).origin = o → (s.source i).isHold = true →
      ((s.source i).condition = true ∧ asserted (s.source i) → t.source i = s.source i) ∧
      ((s.source i).condition = false ∧ ¬asserted (s.source i) → t.source i = s.source i) ∧
      ((s.source i).condition = false ∧ asserted (s.source i) → t.source i = (s.conditionAsserts i).source i) ∧
      ((s.source i).condition = true ∧ ¬asserted (s.source i) → t.source i = (s.conditionDrops i).source i)) ∧
    (∃ keep : TxEntry → Bool, t.tx = s.tx.filter keep ∧
      ∀ f ∈ s.tx, keep f = false ↔ f.onBus = false ∧ ∃ i, f.producer = .source i ∧ withdrawn i) ∧
    ((s.faults.orphaned = true ↔ ∃ i, (s.source i).holdState = .orphaned) →
      (t.faults.orphaned = true ↔ ∃ i, (t.source i).holdState = .orphaned))

/-- Which edges of an input line an entry counts, by its mode, and that every COMPLETE of a generator and every TERMINAL
of a counter, presented with direction RISE, is a qualifying edge in each edge mode (R7, R8, R9). The TERMINAL events of a
counter are presented one after another, each as an edge with direction RISE (R9). An edge that is presented reaches every
entry on its origin that counts it, an edge passed over and an edge of another origin change nothing in the entry, and
beyond the entries only the lost edges are counted and latched (R5, R12, R15). -/
def Obligations.InputEdgesAreCountedByMode : Prop :=
  (∀ n : Fin 16,
    Mode.edgeRise.counts (.input n) .rise = true ∧ Mode.edgeRise.counts (.input n) .fall = false ∧
    Mode.edgeFall.counts (.input n) .rise = false ∧ Mode.edgeFall.counts (.input n) .fall = true ∧
    (∀ d, Mode.edgeBoth.counts (.input n) d = true) ∧ (∀ d, Mode.holdHigh.counts (.input n) d = false) ∧
    (∀ d, Mode.holdLow.counts (.input n) d = false)) ∧
  (∀ (o : Origin) (d : Direction), ((∃ g, o = .generator g) ∨ ∃ c, o = .counter c) →
    Mode.edgeRise.counts o d = true ∧ Mode.edgeFall.counts o d = true ∧ Mode.edgeBoth.counts o d = true ∧
    Mode.holdHigh.counts o d = false ∧ Mode.holdLow.counts o d = false) ∧
  (∀ (s : State) (c : Fin 4) (q : Nat),
    s.terminalEvents c 0 = s ∧
    s.terminalEvents c (q + 1) = (s.presentEdge (.counter c) .rise).terminalEvents c q) ∧
  ∀ (s : State) (o : Origin) (d : Direction),
    let t := s.presentEdge o d
    let lost := (indices 16).countP (fun i =>
      (s.source i).origin = o && (s.source i).mode.counts o d && ((s.source i).countEdge d).2)
    (∀ i : Fin 16, (s.source i).origin = o →
      ((s.source i).mode.counts o d = true →
        t.source i = ((s.source i).countEdge d).1 ∧ (t.source i).lastDir = d) ∧
      ((s.source i).mode.counts o d = false → t.source i = s.source i)) ∧
    (∀ i : Fin 16, (s.source i).origin ≠ o → t.source i = s.source i) ∧
    t = { s with
      sources := t.sources
      tallies := (s.countTimes .lostEdges lost).tallies
      faults := if lost = 0 then s.faults else { s.faults with lostEdges := true } }

/-- A qualifying edge at an edge-mode entry in each of its states, with saturation at 15 and the lost edge (R11, R12,
R15). -/
def Obligations.QualifyingEdgesSaturateAt15 : Prop :=
  ∀ (s : State) (i : Fin 16) (d : Direction),
    let e := s.source i
    let t := s.takeEdge i d
    (e.edgeState = .idle → t = s.setSource i { e with pendingCount := 1, lastDir := d, edgeState := .owed }) ∧
    (e.edgeState = .owed ∨ e.edgeState = .listed →
      (e.pendingCount ≠ 15 → t = s.setSource i { e with pendingCount := e.pendingCount + 1, lastDir := d }) ∧
      (e.pendingCount = 15 →
        t.sources = upd s.sources i { e with lastDir := d } ∧ t.tally .lostEdges = satInc (s.tally .lostEdges) ∧
        t.faults = { s.faults with lostEdges := true } ∧ t.tx = s.tx)) ∧
    (e.edgeState = .sending →
      (e.nextCount ≠ 15 → t = s.setSource i { e with nextCount := e.nextCount + 1, lastDir := d }) ∧
      (e.nextCount = 15 →
        t.sources = upd s.sources i { e with lastDir := d } ∧ t.tally .lostEdges = satInc (s.tally .lostEdges) ∧
        t.faults = { s.faults with lostEdges := true } ∧ t.tx = s.tx))

/-! ## Holds at the owner -/

/-- The condition of an entry asserts: at QUIET a new instance starts, with its required set rebuilt (R25, R26, R27); at
ANNOUNCING a noted drop is taken back (R35); in the other states the condition alone is recorded (R27, R37). -/
def Obligations.AssertionStartsAnInstance : Prop :=
  ∀ (s : State) (i : Fin 16),
    let e := s.source i
    let t := s.conditionAsserts i
    let f := t.source i
    ((s.source i).holdState = .quiet →
      t = s.setSource i f ∧ f.holdState = .announcing ∧ f.condition = true ∧ f.inst = e.inst + 1 ∧ f.received = [] ∧
      f.reannounces = 0 ∧ f.announced = false ∧ f.dropNoted = false ∧ f.predOpen = false ∧ f.releaseTimer = none ∧
      f.repeatTimer = none ∧ f.required.Nodup ∧
      (∀ a : Addr, a ∈ f.required ↔
        e.quorum = 0 ∧ some a ∈ e.releasers.toList ∧ a ≠ s.address ∧
          ¬(e.waiveLost = true ∧ (s.rosterAt a).state = .lost))) ∧
    (e.holdState = .announcing → t = s.setSource i { e with condition := true, dropNoted := false }) ∧
    (e.holdState ≠ .quiet → e.holdState ≠ .announcing → t = s.setSource i { e with condition := true })

/-- A drop of the condition, by the hold state and by where the HOLD stands (R35, R36, R37). -/
def Obligations.DropIsTakenByTheHoldState : Prop :=
  ∀ (s : State) (i : Fin 16),
    let e := s.source i
    let t := s.conditionDrops i
    let f := t.source i
    f.condition = false ∧ (∀ j, j ≠ i → t.source j = s.source j) ∧
    ((e.holdState = .quiet ∨ e.holdState = .ending) → t = s.setSource i { e with condition := false }) ∧
    (e.holdState = .announcing → s.holdOnBus i = true →
      t = s.setSource i { e with condition := false, dropNoted := true }) ∧
    (e.holdState = .announcing → s.holdOnBus i = false →
      t.tx = withdrawWaiting (.source i) s.tx ∧
      (e.announced = true → f.holdState = .ending ∧ f.inst = e.inst) ∧
      (e.announced = false → e.predOpen = true → f.holdState = .ending ∧ f.inst = e.inst - 1) ∧
      (e.announced = false → e.predOpen = false → f.holdState = .quiet ∧ f.inst = e.inst)) ∧
    ((e.holdState = .awaiting ∨ e.holdState = .orphaned ∨ e.holdState = .satisfied) →
      f.holdState = .ending ∧ f.inst = e.inst ∧ f.releaseTimer = none ∧ f.repeatTimer = none ∧ t.tx = s.tx ∧
      (t.faults.orphaned = true ↔ ∃ j, (t.source j).holdState = .orphaned))

/-- RELEASE_TIMER_EXPIRY: re-announcement while fewer than 3 were made, ORPHANED at the fourth expiry (R29). That the time
base goes to the timer's end is the model's choice (log entry 3). -/
def Obligations.ReleaseTimerExpiryReannouncesOrOrphans : Prop :=
  ∀ (s : State) (i : Fin 16) (d : Nat), (s.source i).releaseTimer = some d →
    let e := s.source i
    (e.reannounces ≠ 3 →
      exec (.releaseTimerExpiry i) s =
        .next (State.settle
          { s with
            time := max s.time d
            sources := upd s.sources i
              { e with reannounces := e.reannounces + 1, holdState := .announcing, releaseTimer := none } })) ∧
    (e.reannounces = 3 →
      exec (.releaseTimerExpiry i) s =
        .next (State.settle
          { s with
            time := max s.time d
            sources := upd s.sources i
              { e with holdState := .orphaned, releaseTimer := none, repeatTimer := none }
            faults := { s.faults with orphaned := true } }))

/-- REPEAT_TIMER_EXPIRY starts the next instance with the predecessor-open flag yes (R25, R34). That the time base goes to
the timer's end is the model's choice (log entry 3). -/
def Obligations.RepeatTimerExpiryStartsTheNextInstance : Prop :=
  ∀ (s : State) (i : Fin 16) (d : Nat), (s.source i).repeatTimer = some d →
    let e := s.source i
    exec (.repeatTimerExpiry i) s =
      .next (State.settle
        { s with
          time := max s.time d
          sources := upd s.sources i
            { e with
              inst := e.inst + 1, received := [], required := s.requiredFor e, reannounces := 0, announced := false,
              dropNoted := false, predOpen := true, releaseTimer := none, repeatTimer := none,
              holdState := .announcing } })

/-- RELEASE_ARRIVAL of a new frame from a peer: the station hears the peer, and the source table takes the release
(R30, R146, R147). -/
def Obligations.ReleaseArrivalReachesTheSourceTable : Prop :=
  ∀ (s : State) (rx : Rx) (ch : Channel) (owner : Addr) (k : InstNo),
    Receiving s → Acting s → rx.sender ≠ s.address → ch ≠ 0 → NewFrame s rx →
    exec (.releaseArrival rx ch owner k) s =
      .next ((s.heardFrom rx).takeRelease rx.sender ch owner k).settle

/-- The findings of R30 in the order of its table, for the entry that a RELEASE naming this station reaches. -/
def Obligations.ReleaseIsJudgedByTheTable : Prop :=
  ∀ (s : State) (a : Addr) (ch : Channel) (k : InstNo),
    let stale := s.count .staleReleases
    (∀ owner, owner ≠ s.address → s.takeRelease a ch owner k = s) ∧
    ((∀ i, (s.source i).isHold = true → (s.source i).channel ≠ ch) → s.takeRelease a ch s.address k = stale) ∧
    ∀ i : Fin 16, (s.source i).isHold = true → (s.source i).channel = ch →
      (∀ j, j < i → (s.source j).isHold = true → (s.source j).channel ≠ ch) →
      let e := s.source i
      let t := s.takeRelease a ch s.address k
      let u := s.setSource i { e with received := addrInsert a e.received }
      (e.inst ≠ k → t = stale) ∧
      (e.inst = k → e.holdState = .quiet ∨ e.holdState = .ending → t = stale) ∧
      (e.inst = k → e.holdState = .satisfied → t = s) ∧
      (e.inst = k → e.holdState = .announcing ∨ e.holdState = .awaiting ∨ e.holdState = .orphaned →
        (e.quorum = 0 → some a ∉ e.releasers.toList → t = stale) ∧
        ((e.quorum ≠ 0 ∨ some a ∈ e.releasers.toList) →
          (a ∈ e.received ∨ 4 ≤ e.received.length → t = s) ∧
          (a ∉ e.received → e.received.length < 4 → e.announced = false → t = u) ∧
          (a ∉ e.received → e.received.length < 4 → e.announced = true →
            t = if (u.source i).quorumMet then u.quorumReached i else u)))

/-- The quorum is met: the HOLD is given up, the release timer stops, and the entry is SATISFIED, or ENDING with a drop
noted; the repeat timer starts for REPEAT with a delay, and with a repeat delay of 0 the next instance starts at once
(R1, R31, R34). When it is met: every required address has released, or as many as the quorum names (R26). A LOST report
of an address takes it out of the required set where R39 says so, and the quorum is tested unless the instance is
unannounced. That more addresses than the quorum names meet it too, and the mark of a HOLD given up on the bus, are the
model's (log entries 14 and 19). -/
def Obligations.QuorumMetSatisfiesTheHold : Prop :=
  (∀ (s : State) (i : Fin 16),
    let e := s.source i
    let t := s.quorumReached i
    let f := t.source i
    t.tx = giveUp (.source i) s.tx ∧ f.releaseTimer = none ∧ (∀ j, j ≠ i → t.source j = s.source j) ∧
    (t.faults.orphaned = true ↔ ∃ j, (t.source j).holdState = .orphaned) ∧
    (e.dropNoted = true → f.holdState = .ending ∧ f.inst = e.inst ∧ f.dropNoted = false) ∧
    (e.dropNoted = false → e.repeatFlag = false →
      f.holdState = .satisfied ∧ f.inst = e.inst ∧ f.repeatTimer = none ∧ f.received = e.received) ∧
    (e.dropNoted = false → e.repeatFlag = true → e.repeatDelay ≠ 0 →
      f.holdState = .satisfied ∧ f.inst = e.inst ∧ f.repeatTimer = some (s.time + e.repeatDelay.toNat * 1000) ∧
      f.received = e.received) ∧
    (e.dropNoted = false → e.repeatFlag = true → e.repeatDelay = 0 →
      f.holdState = .announcing ∧ f.inst = e.inst + 1 ∧ f.predOpen = true ∧ f.received = [])) ∧
  (∀ e : SourceEntry,
    (e.quorum = 0 → (e.quorumMet = true ↔ ∀ a ∈ e.required, a ∈ e.received)) ∧
    (e.quorum ≠ 0 → (e.quorumMet = true ↔ e.quorum.toNat ≤ e.received.length))) ∧
  ∀ (s : State) (i : Fin 16) (a : Addr),
    let e := s.source i
    let u := s.setSource i { e with required := e.required.filter (fun b => b != a) }
    let waived := e.isHold = true ∧ e.quorum = 0 ∧ e.waiveLost = true ∧ a ∈ e.required ∧
      (e.holdState = .announcing ∨ e.holdState = .awaiting ∨ e.holdState = .orphaned)
    (¬waived → s.waiveAt i a = s) ∧
    (waived → e.holdState = .announcing → e.announced = false → s.waiveAt i a = u) ∧
    (waived → e.holdState ≠ .announcing ∨ e.announced = true →
      s.waiveAt i a = if (u.source i).quorumMet then u.quorumReached i else u)

/-! ## Generators -/

/-- DELAY_EXPIRY and GAP_EXPIRY start a pulse: GAP_EXPIRY first copies a pending profile; the phase goes to PULSE with
the width and unit then active, and the pulse claims its line or runs shadowed (R76, R77, R79, R97). That the time base
goes to the timer's end is the model's choice (log entry 3). -/
def Obligations.DelayAndGapExpiryStartAPulse : Prop :=
  ∀ (s : State) (g : Fin 8) (d : Nat) (c : Instr), (s.gen g).timer = some d →
    (c = .delayExpiry g ∧ (s.gen g).phase = .delay) ∨ (c = .gapExpiry g ∧ (s.gen g).phase = .gap) →
    let e := s.gen g
    let now := max s.time d
    let e1 : Generator :=
      match e.phase, e.pendingProfile with
      | .gap, some p => { e with active := look s.profiles p, activeNumber := p, pendingProfile := none }
      | _, _ => e
    let e2 : Generator := { e1 with phase := .pulse, timer := some (now + e1.active.width.toNat * e1.active.unit.us) }
    (e.target = none →
      exec c s = .next { s with time := now, gens := upd s.gens g { e2 with shadowed := false } }) ∧
    (∀ o, e.target = some o → (s.out o).owner = none →
      exec c s =
        .next { s with
          time := now
          gens := upd s.gens g { e2 with shadowed := false }
          outs := upd s.outs o { s.out o with owner := some g } }) ∧
    (∀ o h, e.target = some o → (s.out o).owner = some h →
      exec c s =
        .next { s with
          time := now
          gens := upd s.gens g { e2 with shadowed := true }
          tallies := upd s.tallies 3 (satInc (look s.tallies 3))
          faults := { s.faults with collision := true } })

/-- PULSE_EXPIRY: the claim is released; a pulse that is not the last is followed by a gap, and the last one completes
the run: COMPLETE is raised as an edge, the entry into IDLE is reported, a held trigger starts the next run, and the busy
level is then read (R8, R78, R83, R91, R98). That the time base goes to the timer's end is the model's choice (log
entry 3). -/
def Obligations.PulseExpiryEndsThePulse : Prop :=
  ∀ (s : State) (g : Fin 8) (d : Nat), (s.gen g).phase = .pulse → (s.gen g).timer = some d →
    let e := s.gen g
    let now := max s.time d
    let freed : State := { s with
      time := now
      outs :=
        match e.target with
        | none => s.outs
        | some o => if (s.out o).owner = some g then upd s.outs o { s.out o with owner := none } else s.outs }
    let gap (rem : Remaining) : Generator :=
      { e with phase := .gap, shadowed := false, remaining := rem,
               timer := some (now + e.active.gap.toNat * e.active.unit.us) }
    let idle : Generator :=
      { e with phase := .idle, timer := none, shadowed := false, pendingTrigger := false, remaining := .pulses 0 }
    let complete : State := ({ freed with gens := upd s.gens g idle }.presentEdge (.generator g) .rise).idleReport g
    (e.remaining = .unending →
      exec (.pulseExpiry g) s =
        .next (({ freed with gens := upd s.gens g (gap .unending) }.presentLevel (.generator g) true).settle)) ∧
    (∀ n : Byte, e.remaining = .pulses n → 1 < n.toNat →
      exec (.pulseExpiry g) s =
        .next (({ freed with gens := upd s.gens g (gap (.pulses (n - 1))) }.presentLevel (.generator g) true).settle)) ∧
    (e.remaining = .pulses 1 → e.pendingTrigger = false →
      exec (.pulseExpiry g) s = .next ((complete.presentLevel (.generator g) false).settle)) ∧
    (e.remaining = .pulses 1 → e.pendingTrigger = true →
      exec (.pulseExpiry g) s = .next (((complete.startRun g).presentLevel (.generator g) true).settle)) ∧
    ∃ t : State, exec (.pulseExpiry g) s = .next t ∧ t.time = now ∧
      (∀ o, e.target ≠ some o → t.out o = s.out o) ∧
      (∀ o, e.target = some o → (t.gen g).phase ≠ .pulse →
        t.out o = { s.out o with owner := if (s.out o).owner = some g then none else (s.out o).owner }) ∧
      (∀ h, h ≠ g → t.gen h = s.gen h) ∧ t.counters = s.counters ∧ t.groups = s.groups ∧ t.roster = s.roster ∧
      t.subs = s.subs ∧ t.profiles = s.profiles ∧
      (∀ rem, e.remaining = rem → (rem = .unending ∨ ∃ n, rem = .pulses n ∧ 1 < n.toNat) →
        t.gen g =
          { e with
            phase := .gap
            shadowed := false
            remaining := (match rem with
              | .unending => .unending
              | .pulses n => .pulses (n - 1))
            timer := some (now + e.active.gap.toNat * e.active.unit.us) }) ∧
      (e.remaining = .pulses 1 → e.pendingTrigger = false →
        t.gen g =
          { e with phase := .idle, timer := none, shadowed := false, pendingTrigger := false,
                   remaining := .pulses 0 }) ∧
      (e.remaining = .pulses 1 → e.pendingTrigger = true →
        (t.gen g).phase ≠ .idle ∧ (t.gen g).pendingTrigger = false ∧ (t.gen g).pendingProfile = none)

/-- The triggers a FIRE of count n starts, holds and misses, by the retrigger policy, with the busy level high at the end
(R81, R83, R84, R91): in IDLE it starts a run, and under RESTART it aborts the run in progress, whose claim is released and
whose entry into IDLE is reported without COMPLETE, and starts one (R82). The run that a trigger in IDLE starts: the pending
profile copied, the pulses of its count, and the delay or, with delay 0, the first pulse with its claim (R75, R77, R97). -/
def Obligations.FireOfCountNFollowsThePolicy : Prop :=
  (∀ (s : State) (g : Fin 8) (n : Nat), 1 ≤ n →
    let e := s.gen g
    let t := s.fire g n
    let f := t.gen g
    let missed (k : Nat) : Prop := t.tally .missedTriggers = (s.countTimes .missedTriggers k).tally .missedTriggers
    f.phase ≠ .idle ∧
    (e.policy = .ignore → (e.phase = .idle → missed (n - 1)) ∧ (e.phase ≠ .idle → missed n ∧ f = e)) ∧
    (e.policy = .restart → missed 0 ∧ f.pendingTrigger = false ∧ f.pendingProfile = none) ∧
    (e.policy = .stack →
      (e.phase = .idle → missed (n - 2) ∧ f.pendingTrigger = decide (2 ≤ n)) ∧
      (e.phase ≠ .idle → e.pendingTrigger = false → missed (n - 1) ∧ f = { e with pendingTrigger := true }) ∧
      (e.phase ≠ .idle → e.pendingTrigger = true → missed n ∧ f = e))) ∧
  (∀ (s : State) (g : Fin 8) (n : Nat), 1 ≤ n →
    let e := s.gen g
    let run := s.startRun g
    let miss (u : State) (k : Nat) : State := u.countTimes .missedTriggers k
    let hold (u : State) : State := u.setGen g { u.gen g with pendingTrigger := true }
    let aborted : State := State.idleReport { s with
      outs :=
        match e.target with
        | none => s.outs
        | some o => if (s.out o).owner = some g then upd s.outs o { s.out o with owner := none } else s.outs
      gens := upd s.gens g
        { e with phase := .idle, timer := none, shadowed := false, pendingTrigger := false, remaining := .pulses 0 } } g
    let ends (u : State) : Prop := s.fire g n = u.presentLevel (.generator g) true
    (e.phase = .idle →
      (e.policy = .ignore → ends (miss run (n - 1))) ∧ (e.policy = .restart → ends run) ∧
      (e.policy = .stack → n = 1 → ends run) ∧ (e.policy = .stack → 2 ≤ n → ends (miss (hold run) (n - 2)))) ∧
    (e.phase ≠ .idle →
      (e.policy = .ignore → ends (miss s n)) ∧ (e.policy = .restart → ends (aborted.startRun g)) ∧
      (e.policy = .stack → e.pendingTrigger = false → ends (miss (hold s) (n - 1))) ∧
      (e.policy = .stack → e.pendingTrigger = true → ends (miss s n)))) ∧
  ∀ (s : State) (g : Fin 8),
    let e := s.gen g
    let e1 : Generator :=
      match e.pendingProfile with
      | some p => { e with active := look s.profiles p, activeNumber := p, pendingProfile := none }
      | none => e
    let p := e1.active
    let e2 : Generator := { e1 with
      remaining := if p.count = 0 then .unending else .pulses p.count
      pendingTrigger := false
      shadowed := false }
    let delayed : Generator := { e2 with phase := .delay, timer := some (s.time + p.delay.toNat * p.unit.us) }
    let pulsing : Generator := { e2 with phase := .pulse, timer := some (s.time + p.width.toNat * p.unit.us) }
    (e.phase = .idle → s.fire g 1 = (s.startRun g).presentLevel (.generator g) true) ∧
    (p.delay ≠ 0 → s.startRun g = { s with gens := upd s.gens g delayed }) ∧
    (p.delay = 0 → e.target = none → s.startRun g = { s with gens := upd s.gens g pulsing }) ∧
    (∀ o, p.delay = 0 → e.target = some o → (s.out o).owner = none →
      s.startRun g =
        { s with gens := upd s.gens g pulsing, outs := upd s.outs o { s.out o with owner := some g } }) ∧
    (∀ o h, p.delay = 0 → e.target = some o → (s.out o).owner = some h →
      s.startRun g =
        { s with
          gens := upd s.gens g { pulsing with shadowed := true }
          tallies := upd s.tallies 3 (satInc (look s.tallies 3))
          faults := { s.faults with collision := true } })

/-- STOP ends a run without COMPLETE: the claim is released, the entry into IDLE is reported, and the busy level is then
low; a forced-safe stop is a STOP of every generator in ascending order; SELECT replaces the active parameters of an IDLE
generator and stages the profile on a running one (R85, R86, R88, R89, R91). -/
def Obligations.StopAndSelectActOnTheRun : Prop :=
  ∀ (s : State) (g : Fin 8) (p : Fin 16),
    let e := s.gen g
    let idle : Generator :=
      { e with phase := .idle, timer := none, shadowed := false, pendingTrigger := false, remaining := .pulses 0 }
    let freed :=
      match e.target with
      | none => s.outs
      | some o => if (s.out o).owner = some g then upd s.outs o { s.out o with owner := none } else s.outs
    (e.phase = .idle → s.stopGen g = s ∧
      s.select g p =
        s.setGen g { e with active := look s.profiles p, activeNumber := p, pendingProfile := none }) ∧
    (e.phase ≠ .idle →
      s.select g p = s.setGen g { e with pendingProfile := some p } ∧
      s.stopAll = [0, 1, 2, 3, 4, 5, 6, 7].foldl State.stopGen s ∧
      s.stopGen g =
        ({ s with outs := freed, gens := upd s.gens g idle }.idleReport g).presentLevel (.generator g) false ∧
      (s.stopGen g).gen g = idle ∧
      (∀ o, e.target = some o → ((s.stopGen g).out o).owner ≠ some g) ∧ (s.stopGen g).tallies = s.tallies ∧
      (∀ (j : Fin 8) (r : AcceptRecord), (s.stopGen g).slot j = some r →
        ∀ w ∈ r.duties, w.awaiting = true → w.awaited = some g → w.done = true))

/-! ## Lines and counters -/

/-- The level a line shows, from its forced-safe flag, its claim owner and its static level (R96), and FLT, asserted
exactly when the fault set is non-empty (R174). -/
def Obligations.LinesAndFltShowTheirState : Prop :=
  ∀ (s : State) (o : Fin 8),
    (s.flt = true ↔ ∃ k, s.faults.has k = true) ∧
    ((s.out o).forcedSafe = true → s.shown o = (s.out o).safe) ∧
    (∀ g, (s.out o).forcedSafe = false → (s.out o).owner = some g → s.shown o = (s.gen g).activeHigh) ∧
    ((s.out o).forcedSafe = false → (s.out o).owner = none → s.shown o = (s.out o).static)

/-- Claims and releases of a line (R97, R98), and the eleven actions with their count and parameter, as the dispatcher
hands them to their target: SET, CLEAR and TOGGLE at a line, ENABLE and DISABLE at a group, FIRE, STOP and SELECT at a
generator, COUNT and RESET at a counter, and NONE, which does nothing (R64, R65, R66, R67, R68, R100). An action carries
its subscription's parameter; a clear action has none, its count is 1, and its SELECT names the generator's initial profile
(R58, R69). -/
def Obligations.ClaimsReleasesAndStaticLevels : Prop :=
  (∀ (s : State) (o g : Fin 8),
    let l := s.out o
    (l.owner = none → s.claim o g = (s.setOut o { l with owner := some g }, true)) ∧
    (∀ h, l.owner = some h →
      (s.claim o g).2 = false ∧ (s.claim o g).1.outs = s.outs ∧ (s.claim o g).1.gens = s.gens ∧
      (s.claim o g).1.tally .collisions = satInc (s.tally .collisions) ∧
      (s.claim o g).1.faults = { s.faults with collision := true }) ∧
    (l.owner = some g → s.releaseLine o g = s.setOut o { l with owner := none }) ∧
    (l.owner ≠ some g → s.releaseLine o g = s)) ∧
  (∀ (s : State) (x : Fin 8) (y : Fin 4) (target : Option (Fin 8)) (sel : Option (Fin 16)) (n : Nat),
    let l := s.out x
    let run (k : ActionKind) : State := s.runAction { kind := k, target := some x } sel n
    let run4 (k : ActionKind) : State := s.runAction { kind := k, target := some (y.castLE (by decide)) } sel n
    s.runAction { kind := .none, target := target } sel n = s ∧
    run .fire = s.fire x n ∧ run .stop = s.stopGen x ∧ (∀ p, sel = some p → run .select = s.select x p) ∧
    run .set = s.setOut x { l with static := true } ∧ run .clear = s.setOut x { l with static := false } ∧
    run .toggle = (if n % 2 = 1 then s.setOut x { l with static := !l.static } else s) ∧
    run4 .count = s.countBy y n ∧ run4 .reset = s.resetCounter y ∧ run4 .enable = s.setGroup y true ∧
    run4 .disable = s.setGroup y false) ∧
  ∀ (s : State) (k : Fin 32) (n : Nat),
    let e := s.sub k
    s.act k n = s.runAction e.action e.param n ∧
    (∀ g, e.clearAction = { kind := .select, target := some g } → s.clearAct k = s.select g (s.gen g).initial) ∧
    (e.clearAction.kind ≠ .select → s.clearAct k = s.runAction e.clearAction none 1)

/-- A COUNT of n at a WRAP counter: the sum less the terminal once for each crossing, one TERMINAL for each crossing,
and the at-terminal level low (R104). -/
def Obligations.CountWrapsAtTheTerminal : Prop :=
  ∀ (s : State) (c : Fin 4) (n : Nat),
    let k := s.counter c
    k.stick = false → 1 ≤ k.terminal.toNat → k.value.toNat < k.terminal.toNat →
    let q := (k.value.toNat + n) / k.terminal.toNat
    ∃ v : BitVec 16, v.toNat + q * k.terminal.toNat = k.value.toNat + n ∧ v.toNat < k.terminal.toNat ∧
      s.countBy c n =
        ((s.setCounter c { k with value := v }).terminalEvents c q).presentLevel (.counter c) false

/-- A COUNT of n at a STICK counter, and RESET (R105, R106). -/
def Obligations.CountSticksAtTheTerminalAndResetClears : Prop :=
  ∀ (s : State) (c : Fin 4) (n : Nat),
    let k := s.counter c
    1 ≤ k.terminal.toNat → k.value.toNat ≤ k.terminal.toNat →
    (k.stick = true →
      (k.value.toNat + n < k.terminal.toNat →
        s.countBy c n =
          (s.setCounter c { k with value := k.value + BitVec.ofNat 16 n }).presentLevel (.counter c) false) ∧
      (k.value ≠ k.terminal → k.terminal.toNat ≤ k.value.toNat + n →
        s.countBy c n =
          ((s.setCounter c { k with value := k.terminal }).presentEdge (.counter c) .rise).presentLevel (.counter c)
            true) ∧
      (k.value = k.terminal → s.countBy c n = s.presentLevel (.counter c) true)) ∧
    s.resetCounter c = (s.setCounter c { k with value := 0 }).presentLevel (.counter c) false

/-! ## The dispatcher and the acceptance table -/

/-- Which subscriptions a notice matches, an unused one with channel 0 none (R53, R55); that its snapshot holds them in
ascending index, the order in which they run (R56, R58, R59, R61, R63); and that no duty of that snapshot is of an unused
one (R53). -/
def Obligations.SnapshotHoldsTheMatchingEntries : Prop :=
  ∀ (s : State) (n : Notice) (sender : Addr) (ch : Channel),
    (s.snapshot n sender ch).Pairwise (· < ·) ∧
    (∀ k : Fin 32, k ∈ s.snapshot n sender ch ↔
      (s.sub k).channel ≠ 0 ∧ (s.sub k).channel = ch ∧
      ((s.sub k).sender = none ∨ (s.sub k).sender = some sender) ∧
      (((s.sub k).kinds = .edge ∧ n = .edge) ∨ ((s.sub k).kinds = .hold ∧ (n = .hold ∨ n = .clear)) ∨
        (s.sub k).kinds = .either) ∧
      ((s.sub k).group = .always ∨ ∃ m, (s.sub k).group = .member m ∧ look s.groups m = true)) ∧
    ∀ w ∈ s.dutyList (s.snapshot n sender ch), (s.sub w.sub).channel ≠ 0

/-- EDGE_ARRIVAL of a new frame from a peer: the actions of the snapshot run in ascending index, each with the repeat
count (R58, R146). -/
def Obligations.EdgeArrivalRunsTheSnapshot : Prop :=
  ∀ (s : State) (rx : Rx) (ch : Channel) (count : BitVec 4) (dir : Direction),
    Receiving s → Acting s → rx.sender ≠ s.address → ch ≠ 0 → count ≠ 0 → NewFrame s rx →
    exec (.edgeArrival rx ch count dir) s =
      .next (((s.snapshot .edge rx.sender ch).foldl (fun t k => t.act k count.toNat) (s.heardFrom rx)).settle)

/-- HOLD_ARRIVAL of a new frame from a peer that finds no record: with a duty entry and an empty slot a record is made
in the lowest one and every duty entry acts; with a full table the RELEASED record earliest in the age order gives its
slot, and where there is none the overflow is counted and latched (R41, R42, R59, R60). -/
def Obligations.HoldArrivalMakesARecordOrOverflows : Prop :=
  ∀ (s : State) (rx : Rx) (ch : Channel) (k : InstNo) (re : Bool),
    Receiving s → Acting s → rx.sender ≠ s.address → ch ≠ 0 → NewFrame s rx →
    (∀ j : Fin 8, ∀ r ∈ s.slot j, r.sender ≠ rx.sender ∨ r.channel ≠ ch) →
    let h := s.heardFrom rx
    let snap := s.snapshot .hold rx.sender ch
    (s.dutyList snap = [] →
      exec (.holdArrival rx ch k re) s = .next ((snap.foldl (State.holdStep re none) h).settle)) ∧
    (∀ j : Fin 8, s.dutyList snap ≠ [] → s.slot j = none → (∀ i, i < j → s.slot i ≠ none) →
      exec (.holdArrival rx ch k re) s =
        .next (((snap.foldl (State.holdStep re (some j))
          { h with
            slots := upd s.slots j
              (some { sender := rx.sender, channel := ch, inst := k, duties := s.dutyList snap, state := .acting,
                      releaseListed := false })
            ageOrder := s.ageOrder.filter (fun i => i != j) ++ [j] }).testRecord j).settle)) ∧
    (∀ (j : Fin 8) (q : AcceptRecord) (older newer : List (Fin 8)), s.dutyList snap ≠ [] → (∀ i, s.slot i ≠ none) →
      s.ageOrder = older ++ j :: newer → s.slot j = some q → q.state = .released →
      (∀ i ∈ older, ∀ r ∈ s.slot i, r.state ≠ .released) →
      exec (.holdArrival rx ch k re) s =
        .next (((snap.foldl (State.holdStep re (some j))
          { h with
            slots := upd s.slots j
              (some { sender := rx.sender, channel := ch, inst := k, duties := s.dutyList snap, state := .acting,
                      releaseListed := false })
            ageOrder := s.ageOrder.filter (fun i => i != j) ++ [j] }).testRecord j).settle)) ∧
    (s.dutyList snap ≠ [] → (∀ j, s.slot j ≠ none) →
      (∀ j : Fin 8, ∀ r ∈ s.slot j, r.state ≠ .released) →
      exec (.holdArrival rx ch k re) s =
        .next ((snap.foldl (State.holdStep re none)
          { h with
            tallies := upd s.tallies 2 (satInc (look s.tallies 2))
            faults := { s.faults with acceptOverflow := true } }).settle))

/-- HOLD_ARRIVAL that finds the record of its sender and channel: a repeat of the instance runs no duty action and makes
a RELEASED record owe again; another instance supersedes the record, or removes it (R44, R45). -/
def Obligations.HoldArrivalRepeatsOrSupersedes : Prop :=
  ∀ (s : State) (rx : Rx) (ch : Channel) (k : InstNo) (re : Bool) (j : Fin 8) (r : AcceptRecord),
    Receiving s → Acting s → rx.sender ≠ s.address → ch ≠ 0 → NewFrame s rx → AcceptanceSafe s →
    s.slot j = some r → r.sender = rx.sender → r.channel = ch →
    let h := s.heardFrom rx
    let snap := s.snapshot .hold rx.sender ch
    (r.inst = k →
      exec (.holdArrival rx ch k re) s =
        .next ((snap.foldl (State.holdStep re none)
          (h.setSlot j (some (if r.state = .released then { r with state := .releaseOwed } else r)))).settle)) ∧
    (r.inst ≠ k → s.dutyList snap = [] →
      exec (.holdArrival rx ch k re) s =
        .next ((snap.foldl (State.holdStep re none)
          { h with
            slots := upd s.slots j none
            ageOrder := s.ageOrder.filter (fun i => i != j)
            tx := giveUp (.record j) s.tx }).settle)) ∧
    (r.inst ≠ k → s.dutyList snap ≠ [] →
      exec (.holdArrival rx ch k re) s =
        .next (((snap.foldl (State.holdStep re (some j))
          { h with
            slots := upd s.slots j
              (some { sender := rx.sender, channel := ch, inst := k, duties := s.dutyList snap, state := .acting,
                      releaseListed := false })
            ageOrder := s.ageOrder.filter (fun i => i != j) ++ [j]
            tx := giveUp (.record j) s.tx }).testRecord j).settle))

/-- CLEAR_ARRIVAL of a new frame from a peer: the clear actions of the snapshot run, and then the record of that
instance, and of no other, is removed (R48, R61). -/
def Obligations.ClearArrivalRemovesTheRecordOfItsInstance : Prop :=
  ∀ (s : State) (rx : Rx) (ch : Channel) (k : InstNo),
    Receiving s → Acting s → rx.sender ≠ s.address → ch ≠ 0 → NewFrame s rx →
    ∃ u t : State,
      u = (s.snapshot .clear rx.sender ch).foldl (fun v n => v.clearAct n) (s.heardFrom rx) ∧
      exec (.clearArrival rx ch k) s = .next t ∧
      (∀ (j : Fin 8) (r : AcceptRecord), AcceptanceSafe s → s.slot j = some r → r.sender = rx.sender →
        r.channel = ch → r.inst = k →
        t = State.settle { u with
          slots := upd u.slots j none
          ageOrder := u.ageOrder.filter (fun i => i != j)
          tx := giveUp (.record j) u.tx }) ∧
      ((∀ j : Fin 8, ∀ r ∈ s.slot j, r.sender = rx.sender → r.channel = ch → r.inst ≠ k) →
        t = u.settle)

/-- The entry of generator g into IDLE marks done every awaiting duty that names g, in every record, and a record whose
last duty is done owes its RELEASE; nothing else of the station changes. A done duty keeps its awaiting flag, which is
read from the spec by inference (log entry 25). Which entries of a HOLD's snapshot act, and how a duty goes on when its
action has run: done at once, or awaiting its generator, which is done at once if that is IDLE; the record is tested after
the last action. The duties of a record are the first four duty entries of its snapshot (R41, R42, R43, R59, R60). -/
def Obligations.EntryIntoIdleCompletesDuties : Prop :=
  (∀ (s : State) (g : Fin 8),
    (∃ sl, s.idleReport g = { s with slots := sl }) ∧
    ∀ j : Fin 8,
      (s.slot j = none → (s.idleReport g).slot j = none) ∧
      ∀ r : AcceptRecord, s.slot j = some r →
        let duties := r.duties.map (fun w => if w.awaiting = true ∧ w.awaited = some g then { w with done := true } else w)
        (s.idleReport g).slot j =
          some { r with
            duties := duties
            state := if r.state = .acting ∧ (∀ w ∈ duties, w.done = true) then .releaseOwed else r.state }) ∧
  (∀ (s : State) (k : Fin 32) (re : Bool) (rec : Option (Fin 8)),
    let duty := (s.sub k).policy = .immediate ∨ (s.sub k).policy = .atIdle
    (¬duty → s.holdStep re rec k = if re then s else s.act k 1) ∧
    (duty → rec = none → s.holdStep re rec k = s) ∧
    ∀ j, duty → rec = some j →
      let t := s.act k 1
      let run (w : Duty) : Duty :=
        if w.sub = k then
          match w.awaited with
          | none => { w with done := true }
          | some g => { w with awaiting := true, done := decide ((t.gen g).phase = .idle) }
        else w
      s.holdStep re rec k = t.setSlot j ((t.slot j).map (fun r => { r with duties := r.duties.map run }))) ∧
  ∀ (s : State) (j : Fin 8) (snap : List (Fin 32)),
    s.testRecord j =
      s.setSlot j ((s.slot j).map (fun r =>
        if r.state = .acting ∧ (∀ w ∈ r.duties, w.done = true) then { r with state := .releaseOwed } else r)) ∧
    s.dutyList snap =
      ((snap.filter (fun k => (s.sub k).policy = .immediate ∨ (s.sub k).policy = .atIdle)).take 4).map (fun k =>
        { sub := k
          awaited :=
            if (s.sub k).policy = .atIdle ∧ (s.sub k).action.kind = .fire then (s.sub k).action.target else none
          done := false
          awaiting := false })

/-! ## The bus -/

/-- What admission and the start of a contention can change: the transmit list, the edge state of entries that owed, the
state of records that owed, the state of the pending reply, the two demands of the beacon, and the activity of the bus
interface (R13, R46, R130, R132, R166). The entries that were in the list keep their contents and their order, the ones
that come in are unsent, and a contention changes nothing in the list but that the head is ON-BUS (R128, R130, R132). -/
def Obligations.AdmissionLeavesTheRest : Prop :=
  ∀ s : State, ∃ src l r rp bc act ph st,
    s.settle = { s with sources := src, tx := l, slots := r, reply := rp, beacon := bc,
                        bus := { s.bus with activity := act, phase := ph, stopped := st } } ∧
    (∀ i, look src i = s.source i ∨
      ((s.source i).edgeState = .owed ∧ look src i = { s.source i with edgeState := .listed })) ∧
    (∀ j, look r j = s.slot j ∨ ∃ q : AcceptRecord, s.slot j = some q ∧ q.state = .releaseOwed ∧
      look r j = some { q with state := .releaseListed, releaseListed := true }) ∧
    (rp = s.reply ∨ ∃ q : Reply, s.reply = some q ∧ q.state = .owed ∧ rp = some { q with state := .listed }) ∧
    bc.timer = s.beacon.timer ∧ bc.won = s.beacon.won ∧ (bc.owesJoin = true → s.beacon.owesJoin = true) ∧
    (bc.owesPresence = true → s.beacon.owesPresence = true) ∧ (∀ e ∈ s.tx, ∃ f ∈ l, f.producer = e.producer) ∧
    (act = s.bus.activity ∧ ph = s.bus.phase ∧ st = s.bus.stopped ∨
      s.bus.activity = .idle ∧ s.bus.phase = .busIdle ∧ act = .contending s.bus.standing ∧ ph = .receiving ∧ st = false) ∧
    ∃ m : List TxEntry, s.tx.Sublist m ∧ (∀ e ∈ m, e ∈ s.tx ∨ e.Unsent) ∧
      ((l = m ∧ act = s.bus.activity) ∨
        ∃ h rest, m = h :: rest ∧ h.onBus = false ∧ l = { h with onBus := true } :: rest ∧
          act = .contending s.bus.standing)

/-- Admission in JOINED: every frame owed is admitted unless the list is full or its producer has an entry in it, in the
order of R129, and nothing else comes into the list; the entry admitted carries the channel and payload of what is owed,
and its producer is told. In JOINING a JOIN owed is admitted with the fresh flag and the signature as they stand, and
nothing else; in the other station states nothing is admitted and no contention begins (R13, R20, R46, R129, R130, R132,
R141, R164). The premise on hold-mode entries is part of the invariant EdgesSafe, which every step keeps. -/
def Obligations.AdmissionFillsTheList : Prop :=
  ∀ s : State, s.tx.length ≤ 8 → (∀ i : Fin 16, (s.source i).isHold = true → (s.source i).edgeState = .idle) →
    let t := s.settle
    t.tx.length ≤ 8 ∧
    (s.bus.station = .joined →
      (∀ e n, OwedAt s e n → t.tx.length = 8 ∨ ∃ f ∈ t.tx, f.producer = e.producer) ∧
      (∀ e n e' n', OwedAt s e n → OwedAt s e' n' → n < n' → AdmittedBy s t e' →
        (∃ f ∈ s.tx, f.producer = e.producer) ∨ AdmittedBy s t e) ∧
      (∀ f ∈ t.tx, (∀ h ∈ s.tx, h.producer ≠ f.producer) →
        ∃ e n, OwedAt s e n ∧ (f = e ∨ f = { e with onBus := true }))) ∧
    (s.bus.station = .joining → s.tx = [] →
      (s.beacon.owesJoin = false → t.tx = []) ∧
      (∀ e, OwesJoin s e →
        t.beacon.owesJoin = false ∧
          t.tx = [{ e with onBus := decide (s.bus.phase = .busIdle ∧ s.bus.activity = .idle) }])) ∧
    (s.bus.station ≠ .joining → s.bus.station ≠ .joined → t = s) ∧
    ∀ e, AdmittedBy s t e →
      (∀ j, OwesRelease s e j →
        t.slot j = (s.slot j).map (fun r => { r with state := .releaseListed, releaseListed := true })) ∧
      (∀ i, OwesEdge s e i → t.source i = { s.source i with edgeState := .listed }) ∧
      (OwesReport s e → t.reply = s.reply.map (fun r => { r with state := .listed })) ∧
      (OwesJoin s e → t.beacon.owesJoin = false) ∧ (OwesPresence s e → t.beacon.owesPresence = false)

/-- BUS_IDLE and FRAME_BEGINS: the receive phase, and the WAITING head that a station in JOINING or JOINED offers, with
the standing it has then (R114, R132). -/
def Obligations.IdleBusOffersTheWaitingHead : Prop :=
  ∀ s : State, s.bus.station ≠ .offline → s.bus.activity = .idle →
    (s.bus.phase = .waitingIdle →
      ((s.bus.station ≠ .joining ∧ s.bus.station ≠ .joined) ∨ s.tx = [] →
        exec .busIdle s = .next { s with bus := { s.bus with phase := .busIdle } }) ∧
      (∀ (e : TxEntry) (rest : List TxEntry), s.bus.station = .joining ∨ s.bus.station = .joined →
        s.tx = e :: rest → e.onBus = false →
        exec .busIdle s =
          .next { s with
            tx := { e with onBus := true } :: rest
            bus := { s.bus with phase := .receiving, stopped := false,
                                activity := .contending s.bus.standing } })) ∧
    (s.bus.phase = .busIdle →
      ((s.bus.station ≠ .joining ∧ s.bus.station ≠ .joined) ∨ s.tx = [] →
        exec .frameBegins s = .next { s with bus := { s.bus with phase := .receiving, stopped := false } }) ∧
      (∀ (e : TxEntry) (rest : List TxEntry), s.bus.station = .joining ∨ s.bus.station = .joined →
        s.tx = e :: rest → e.onBus = false →
        exec .frameBegins s =
          .next { s with
            tx := { e with onBus := true } :: rest
            bus := { s.bus with phase := .receiving, stopped := false,
                                activity := .contending s.bus.standing } }))

/-- CONTENTION_WON: standing 15 and the won flag; at the first win the head takes the sequence counter, which increases
by 1 modulo 64, its payload is captured (the counts of an EDGE, the data of section 9.2.1 or the refusal for a REPORT, the
summary for a PRESENCE), and its producer is told; at a later win it keeps its number and payload (R14, R20, R46, R119,
R133, R134, R158, R166, R168, R169). The win of another entry drops a PRESENCE owed or WAITING (R159). From then on the
station sends the frame of its head with the standing of this contention and its own address, and 1 in both slots, and what
it sent before was that frame's first ten cells (R111, R125, R132, R133, R177). That an instance announced is no longer predecessor-open, and 0 for the
absent fields of two report pages, are the model's choices (log entries 13, 32). -/
def Obligations.WinTakesTheSequenceNumber : Prop :=
  ∀ (s : State) (st : BitVec 4) (e : TxEntry) (rest : List TxEntry),
    s.bus.activity = .contending st → s.tx = e :: rest → e.onBus = true → ∃ t : State,
      exec .contentionWon s = .next t ∧ t.bus.standing = 15 ∧ t.bus.activity = .attempting st ∧
      t.beacon.won = true ∧ t.bus.station = s.bus.station ∧ t.bus.failures = s.bus.failures ∧
      t.tallies = s.tallies ∧ t.faults = s.faults ∧ t.roster = s.roster ∧ t.gens = s.gens ∧ t.outs = s.outs ∧
      (e.beenOnBus = false →
        t.bus.sequence = s.bus.sequence + 1 ∧
        ∃ m, t.tx.head? = some { e with seq := some s.bus.sequence, beenOnBus := true, msg := m } ∧
          (∀ i, e.kind = .edge → e.producer = .source i →
            m = some (.edge (s.source i).pendingCount (s.source i).lastDir) ∧ (t.source i).edgeState = .sending ∧
            (t.source i).nextCount = 0) ∧
          (e.kind = .hold ∨ e.kind = .clear ∨ e.kind = .release ∨ e.kind = .join → m = e.msg) ∧
          (∀ r, e.kind = .report → e.producer = .responder → s.reply = some r →
            t.reply = some { r with state := .sending } ∧
            (∀ reason, r.answer = .refused reason →
              m = some (.report r.querier 0xFF r.index r.item (reason.setWidth 8) 0)) ∧
            (r.answer = .data → r.index.toNat < itemRange r.item → AcceptanceSafe s → ∃ d0 d1 d2 : Byte,
              m = some (.report r.querier r.item r.index d0 d1 d2) ∧
              Shows s r.item.toNat r.index.toNat d0.toNat d1.toNat d2.toNat)) ∧
          (e.kind = .presence → ∃ (faulty anyHold : Bool) (code : BitVec 3),
            m = some (.presence faulty code anyHold) ∧ faulty = s.flt ∧
            stationCodes[code.toNat]? = some s.bus.station ∧ (anyHold = true ↔ SomeHold s)) ∧
          (∀ i k re, e.kind = .hold → e.producer = .source i → e.msg = some (.hold k re) →
            (k = (s.source i).inst → (t.source i).announced = true ∧ (t.source i).predOpen = false) ∧
            (k ≠ (s.source i).inst → (t.source i).announced = (s.source i).announced)) ∧
          (∀ j r, e.kind = .release → e.producer = .record j → e.unwanted = false → s.slot j = some r →
            t.slot j = some { r with state := .releaseSending, releaseListed := true }) ∧
          ∀ x, m = some x →
            t.frameSent =
              some { standing := st, sender := s.address, seq := s.bus.sequence, channel := e.channel, msg := x }) ∧
      (e.beenOnBus = true →
        t.bus.sequence = s.bus.sequence ∧ t.tx.head? = some e ∧
        ∀ q x, e.seq = some q → e.msg = some x →
          t.frameSent = some { standing := st, sender := s.address, seq := q, channel := e.channel, msg := x }) ∧
      (e.kind ≠ .presence → t.beacon.owesPresence = false ∧ ∀ f ∈ t.tx, f.kind = .presence → f.onBus = true) ∧
      ∀ f, t.frameSent = some f → f.msg.kind = e.kind →
        t.cellsSent = f.cells ++ [true, true] ∧ s.cellsSent = f.cells.take 10

/-- CONTENTION_LOST: the standing falls by 1 and stays at 0; the head returns to WAITING with its retry count and flags
unchanged (R128, R132, R134), and an entry given up or a drop noted while it was on the bus is taken (R35, R38, R47). How
the flags stand after such a return, and the mark of an entry given up, are the model's reading of those rules (log
entries 13, 19, 22 and 33). -/
def Obligations.LossLowersTheStanding : Prop :=
  ∀ (s : State) (st : BitVec 4) (e : TxEntry) (rest : List TxEntry),
    s.bus.activity = .contending st → s.tx = e :: rest → TxSafe s →
    let bus : BusInterface := { s.bus with
      activity := .idle
      standing := if s.bus.standing = 0 then 0 else s.bus.standing - 1 }
    exec .contentionLost s = .next (State.givenBack { s with bus := bus } e rest).settle

/-- A failed attempt with retries left, by NAK, by silence with a PRESENT peer, or by a bit error: tally, return to
WAITING with the retry count increased, self-delivery at the first whole sending of a notice, and the
consecutive-failure count (R135, R137, R138, R139). A PRESENCE, which is not retried, and an attempt with the retries used
up are in DeliveryIsToldToTheSource. That a station goes on receiving after its bit error as one that stopped, and the
flags and sets after a return, are the model's reading of R124 and R35 (log entries 13, 19, 22, 30 and 33). -/
def Obligations.FailedAttemptIsRetried : Prop :=
  ∀ (s : State) (st : BitVec 4) (e : TxEntry) (rest : List TxEntry),
    s.bus.activity = .attempting st → s.tx = e :: rest → TxSafe s → s.bus.station ≠ .conflict → e.kind ≠ .presence →
    e.retries < s.bus.retryLimit.toNat → s.bus.failures < 31 →
    let retried : TxEntry := { e with retries := e.retries + 1 }
    let marked : TxEntry := { e with retries := e.retries + 1, selfDelivered := true }
    let heard : BusInterface := { s.bus with activity := .idle, phase := .waitingIdle, stopped := false }
    let cut : BusInterface := { s.bus with activity := .idle, phase := .receiving, stopped := true }
    let counted (t : State) : Result :=
      .next (State.settle { t with bus := { t.bus with failures := s.bus.failures + 1 } })
    let answer (t : State) : Result :=
      if e.FirstSending then counted ((t.givenBack marked rest).ownDelivery e) else counted (t.givenBack retried rest)
    (∀ ack : Bool,
      exec (.attemptConclusion ack true) s =
        answer { s with bus := heard, tallies := upd s.tallies 4 (satInc (look s.tallies 4)) }) ∧
    ((∃ a : Fin 32, (look s.roster a).state = .present) →
      exec (.attemptConclusion false false) s = answer { s with bus := heard }) ∧
    exec .bitError s =
      counted (State.givenBack { s with bus := cut, tallies := upd s.tallies 5 (satInc (look s.tallies 5)) } retried rest)

/-- A conclusion at which the entry leaves the list, Delivered, no-audience or Undelivered: the producer goes on by its
own rule, an Undelivered result is counted and latched but for a PRESENCE and an unwanted RELEASE, the notice is
self-delivered unless an earlier sending was or this one met a bit error, and the consecutive-failure count is 0, kept, or
increased below 32 (R136, R137, R138, R139). EDGE carries its next count over (R16, R17, R18); HOLD goes to AWAITING, and
on to SATISFIED with its quorum met, or to ENDING with a drop noted, and an unwanted HOLD changes nothing (R28, R35, R38);
CLEAR goes to QUIET or starts the next instance (R37); a RELEASE leaves its record RELEASED, an unwanted one nothing (R46,
R47); JOIN leads to JOINED (R141); REPORT ends the reply (R166); PRESENCE ends (R137, R159). That more addresses than the
quorum names meet it too, the mark of an entry given up, that the drop-noted flag ends at ENDING, the receiving after a bit
error, and that an unwanted RELEASE still counts a NAK seen or a bit error, are the model's (log entries 14, 19, 22, 30,
31). -/
def Obligations.DeliveryIsToldToTheSource : Prop :=
  ∀ (s : State) (st : BitVec 4) (f : TxEntry) (rest : List TxEntry) (c : Instr) (r : TxResult) (n : Nat),
    s.bus.activity = .attempting st → s.tx = f :: rest → TxSafe s → s.bus.station ≠ .conflict → Removes s f c r →
    n = (match r with
      | .delivered => 0
      | .noAudience => s.bus.failures
      | .undelivered => s.bus.failures + 1) → n < 32 →
    let past : State := { s.attemptOver c with tx := rest }
    let noted := past.resultNoted r
    let answer (u : State) : Result :=
      let v : State := if f.FirstSending ∧ c ≠ .bitError then u.ownDelivery f else u
      .next (State.settle { v with bus := { v.bus with failures := n } })
    (∀ i : Fin 16, f.producer = .source i →
      let e := s.source i
      let told (x : SourceEntry) : State := { noted with sources := upd s.sources i x }
      (f.kind = .edge →
        exec c s =
          answer (told { e with
            pendingCount := e.nextCount
            nextCount := 0
            edgeState := if e.nextCount = 0 then .idle else .owed })) ∧
      (f.kind = .hold → f.unwanted = true ∨ e.holdState ≠ .announcing → exec c s = answer noted) ∧
      (f.kind = .hold → f.unwanted = false → e.holdState = .announcing → e.dropNoted = true →
        exec c s = answer (told { e with holdState := .ending, dropNoted := false })) ∧
      (f.kind = .hold → f.unwanted = false → e.holdState = .announcing → e.dropNoted = false →
        let w := told { e with
          holdState := .awaiting
          releaseTimer := some (s.time + s.releaseTimeout.toNat * 10000) }
        let open_ := if e.quorum = 0 then ∃ a ∈ e.required, a ∉ e.received else e.received.length < e.quorum.toNat
        (open_ → exec c s = answer w) ∧ (¬open_ → exec c s = answer (w.quorumReached i))) ∧
      (f.kind = .clear → e.holdState = .ending → HoldsSafe s →
        (e.condition = false →
          exec c s = answer (told { e with holdState := .quiet, announced := false, predOpen := false })) ∧
        (e.condition = true →
          exec c s =
            answer (told { e with
              inst := e.inst + 1, received := [], required := s.requiredFor e, reannounces := 0, announced := false,
              predOpen := false, holdState := .announcing })))) ∧
    (∀ j : Fin 8, f.producer = .record j → f.kind = .release →
      (f.unwanted = true → exec c s = answer past) ∧
      (f.unwanted = false →
        exec c s =
          answer { noted with
            slots := upd s.slots j ((s.slot j).map (fun q => { q with state := .released, releaseListed := false })) })) ∧
    (f.producer = .beacon → f.kind = .join →
      exec c s =
        answer { noted with
          bus := { noted.bus with station := .joined }, outs := s.outs.map (fun l => { l with forcedSafe := false }) }) ∧
    (f.producer = .beacon → f.kind = .presence → exec c s = answer past) ∧
    (f.producer = .responder → f.kind = .report → (∀ q ∈ s.reply, q.restart = false) →
      exec c s = answer { noted with reply := none })

/-- The attempt that brings the consecutive-failure count to 32 takes the station to WITHDRAWN: count 0, fresh flag no,
list flushed, hold-off of 256 ms, and the fault kind WITHDRAWN (R139, R142). What the flush leaves each producer: an EDGE
goes back to OWED with its two counts added up to 15 and the edges beyond it lost, a HOLD or CLEAR, a RELEASE, the reply
and a JOIN are owed again, a PRESENCE is not (R19, R21, R51, R142, R167). That the station is taken to WITHDRAWN from
every station state, where section 7.4 names JOINED, is the model's reading (log entry 28), and so are the JOIN flushed
(log entry 16), the receiving after a bit error (log entry 30), and the flags, sets and mark at the return before the flush
(log entries 13, 19, 22, 33). The REPORT of a RESTART is in RestartFollowsItsReport. -/
def Obligations.ThirtyTwoFailuresWithdraw : Prop :=
  (∀ (s : State) (st : BitVec 4) (e : TxEntry) (rest : List TxEntry),
    s.bus.activity = .attempting st → s.tx = e :: rest → s.bus.failures = 31 →
    (e.producer = .responder → ∀ r ∈ s.reply, r.restart = false) →
    (∀ c : Instr, (c = .bitError ∨ (∃ ack, c = .attemptConclusion ack true) ∨
      (c = .attemptConclusion false false ∧ ∃ a : Fin 32, (look s.roster a).state = .present)) → ∃ t : State,
      exec c s = .next t ∧ t.bus.station = .withdrawn ∧ t.bus.failures = 0 ∧ t.bus.fresh = false ∧ t.tx = [] ∧
      t.bus.activity = .idle ∧ t.bus.holdOff = some (s.time + 256000) ∧ t.faults.withdrawn = true ∧ t.flt = true ∧
      t.bus.standing = s.bus.standing ∧ t.bus.sequence = s.bus.sequence ∧ t.beacon.owesPresence = false ∧
      t.roster = s.roster ∧ (∀ o, (t.out o).forcedSafe = s.bus.safeOnWithdraw) ∧
      (s.bus.safeOnWithdraw = true → ∀ g, (t.gen g).phase = .idle)) ∧
    (TxSafe s → e.kind ≠ .presence → e.retries < s.bus.retryLimit.toNat →
      let v := ((s.attemptOver .bitError).givenBack { e with retries := e.retries + 1 } rest).flush
      let w : State := { v with
        bus := { v.bus with
          station := .withdrawn, failures := 0, fresh := false, holdOff := some (s.time + 256000) }
        faults := { v.faults with withdrawn := true }
        outs := s.outs.map (fun l => { l with forcedSafe := s.bus.safeOnWithdraw }) }
      exec .bitError s = .next (if s.bus.safeOnWithdraw then w.stopAll else w))) ∧
  ∀ s : State, (s.tx.map TxEntry.producer).Nodup →
    let t := s.flush
    let sum (i : Fin 16) : Nat := (s.source i).pendingCount.toNat + (s.source i).nextCount.toNat
    let edgeOf (i : Fin 16) : Bool := s.tx.any (fun e => e.kind = .edge ∧ e.producer = .source i)
    let lost : Nat := ((indices 16).map (fun i => if edgeOf i then sum i - 15 else 0)).sum
    t = { s with
      tx := []
      sources := t.sources
      slots := t.slots
      reply := t.reply
      beacon := { s.beacon with owesJoin := t.beacon.owesJoin, owesPresence := false }
      tallies := (s.countTimes .lostEdges lost).tallies
      faults := if lost = 0 then s.faults else { s.faults with lostEdges := true } } ∧
    (∀ i, edgeOf i = true →
      t.source i = { s.source i with
        pendingCount := BitVec.ofNat 4 (min 15 (sum i)), nextCount := 0, edgeState := .owed }) ∧
    (∀ i, edgeOf i = false → t.source i = s.source i) ∧
    (∀ j : Fin 8, ∀ e ∈ s.tx, e.producer = .record j → e.unwanted = false →
      t.slot j = (s.slot j).map (fun r => { r with state := .releaseOwed, releaseListed := false })) ∧
    (∀ j : Fin 8, (∀ e ∈ s.tx, e.producer = .record j → e.unwanted = true) → t.slot j = s.slot j) ∧
    t.reply =
      (if s.tx.any (fun e => e.producer = .responder) then s.reply.map (fun r => { r with state := .owed })
        else s.reply) ∧
    (t.beacon.owesJoin = true ↔
      s.beacon.owesJoin = true ∨ ∃ e ∈ s.tx, e.kind = .join ∧ e.producer = .beacon)

/-- The restart at the conclusion of the REPORT of a RESTART, whatever its outcome: every block at its reset values but
the address, the rate, the time base and the sequence counter (R172, R185), and but the pin levels, the queue and the
model's counter of free values, which are not a block's and are kept: the model's choice (log entry 26). -/
def Obligations.RestartFollowsItsReport : Prop :=
  ∀ (s : State) (st : BitVec 4) (e : TxEntry) (rest : List TxEntry) (r : Reply),
    s.bus.activity = .attempting st → s.tx = e :: rest → e.producer = .responder → e.kind = .report →
    s.reply = some r → r.restart = true →
    let t : State := { s.fullReset s.address s.rate with
      time := s.time
      bus := { BusInterface.reset with sequence := s.bus.sequence }
      loader := Loader.reset (s.time + 1000) }
    exec (.attemptConclusion true false) s = .next t ∧
    ((∀ a : Fin 32, (look s.roster a).state ≠ .present) → exec (.attemptConclusion false false) s = .next t) ∧
    (s.bus.retryLimit.toNat ≤ e.retries →
      (∀ ack, exec (.attemptConclusion ack true) s = .next t) ∧ exec (.attemptConclusion false false) s = .next t ∧
      exec .bitError s = .next t)

/-- HOLD_OFF_EXPIRY: LISTENING goes to JOINING with a JOIN owed, WITHDRAWN to LISTENING with standing 15 and a hold-off
of twice the beacon interval (R140, R141, R142). That the time base goes to the timer's end is the model's choice (log
entry 3). -/
def Obligations.HoldOffExpiryMovesTheStation : Prop :=
  ∀ (s : State) (d : Nat), s.bus.holdOff = some d →
    let now := max s.time d
    let lines := s.outs.map (fun l => { l with forcedSafe := false })
    let joining : BusInterface := { s.bus with station := .joining, holdOff := none }
    let again : BusInterface := { s.bus with
      station := .listening
      standing := 15
      holdOff := some (now + 2 * (s.bus.beaconInterval.toNat * 10000)) }
    (s.bus.station = .listening →
      exec .holdOffExpiry s =
        .next (State.settle
          { s with time := now, outs := lines, bus := joining, beacon := { s.beacon with owesJoin := true } })) ∧
    (s.bus.station = .withdrawn →
      exec .holdOffExpiry s =
        .next { s with time := now, outs := lines, bus := again, faults := { s.faults with withdrawn := false } })

/-- FRAME_TRUNCATION and FRAME_IN_ERROR: the frame is discarded; a frame in error is answered in the NAK slot where the
state permits it and the station did not stop in it (R114, R123, R124). That the verdict is formed on the cells, and that
admission is taken at the end of the frame in error too, are the model's choices (log entries 23 and 8). -/
def Obligations.FramesInErrorAreDiscarded : Prop :=
  ∀ s : State, Receiving s →
    exec .frameTruncation s =
      .next { s with bus := { s.bus with phase := .waitingIdle, stopped := false, slotAnswer := .none } } ∧
    ∀ cells : List Bool, verdict cells = .crcError ∨ verdict cells = .formatError →
      exec (.frameInError cells) s =
        .next (State.settle { s with
          bus := { s.bus with
            phase := .waitingIdle
            stopped := false
            slotAnswer :=
              if (s.bus.station = .listening ∨ s.bus.station = .joining ∨ s.bus.station = .joined) ∧
                s.bus.stopped = false then .nak else .none } })

/-- OWN_ADDRESS_FRAME: the station enters CONFLICT, with the list flushed, so that the producers owe again what they had in
it, the hold-off stopped, ADDRESS-CONFLICT latched, every line forced safe and every generator stopped, and drives neither
slot; in CONFLICT it changes nothing more (R19, R21, R51, R124, R143, R144, R167). What a flush leaves each producer is in
ThirtyTwoFailuresWithdraw, and that a JOIN is owed again rests on log entry 16. That WITHDRAWN leaves the fault set with its state, also toward CONFLICT, is the model's reading
of section 9.4 (log entry 15). -/
def Obligations.OwnAddressFrameEntersConflict : Prop :=
  ∀ (s : State) (standing : BitVec 4) (seq : Seq) (ch : Channel) (m : Msg),
    Receiving s →
    Frame.formatOk { standing := standing, sender := s.address, seq := seq, channel := ch, msg := m } = true →
    (s.bus.station ≠ .conflict → ∃ t : State,
      exec (.ownAddressFrame standing seq ch m) s = .next t ∧
      t = [0, 1, 2, 3, 4, 5, 6, 7].foldl State.stopGen
        { s.flush with
          bus := { s.bus with station := .conflict, holdOff := none, phase := .waitingIdle, stopped := false,
                              slotAnswer := .none }
          faults := { s.flush.faults with withdrawn := false, addressConflict := true }
          outs := s.outs.map (fun l => { l with forcedSafe := true }) } ∧
      t.reply = s.flush.reply ∧ t.beacon = s.flush.beacon ∧
      (∀ i,
        let e := s.flush.source i
        let f := t.source i
        f.edgeState = e.edgeState ∧ f.pendingCount = e.pendingCount ∧ f.nextCount = e.nextCount ∧ f.lastDir = e.lastDir) ∧
      (∀ (j : Fin 8) (r : AcceptRecord), s.flush.slot j = some r → r.state ≠ .acting →
        (t.slot j).map AcceptRecord.state = some r.state) ∧
      t.bus.station = .conflict ∧ t.tx = [] ∧
      t.bus.holdOff = none ∧ t.faults.addressConflict = true ∧ t.faults.withdrawn = false ∧ t.flt = true ∧
      t.bus.slotAnswer = .none ∧ t.bus.phase = .waitingIdle ∧ t.roster = s.roster ∧
      t.bus.failures = s.bus.failures ∧ t.bus.standing = s.bus.standing ∧ t.bus.sequence = s.bus.sequence ∧
      t.beacon.owesPresence = false ∧ t.counters = s.counters ∧ t.groups = s.groups ∧
      (∀ g, (t.gen g).phase = .idle) ∧ ∀ o, (t.out o).forcedSafe = true ∧ t.shown o = (s.out o).safe) ∧
    (s.bus.station = .conflict →
      exec (.ownAddressFrame standing seq ch m) s =
        .next { s with bus := { s.bus with phase := .waitingIdle, stopped := false, slotAnswer := .none } })

/-! ## The receive filter and the roster -/

/-- PRESENCE_ARRIVAL, REPORT_ARRIVAL and QUERY_OTHER_TARGET: the slots, the sender's roster entry, and for a duplicate
the duplicates tally; nothing else (R146, R147, R148, R151, R160). In CONFLICT the same of a new EDGE, HOLD, CLEAR,
RELEASE or QUERY to this station: it is heard and not acted on (R57, R144, R147). QUERY_OTHER_TARGET with the own address
for its target is a QUERY to this station, which is the model's reading of such operands (log entry 21). -/
def Obligations.RosterOnlyArrivals : Prop :=
  ∀ (s : State) (rx : Rx), Receiving s → rx.sender ≠ s.address →
    let h := s.heardFrom rx
    let dup : State := { h with tallies := upd s.tallies 6 (satInc (look s.tallies 6)) }
    (∀ (f : Bool) (code : BitVec 3) (a : Bool), code.toNat < 6 → exec (.presenceArrival rx f code a) s = .next h) ∧
    (∀ (q : Addr) (item index d0 d1 d2 : Byte),
      (NewFrame s rx → exec (.reportArrival rx q item index d0 d1 d2) s = .next h) ∧
      (¬NewFrame s rx → exec (.reportArrival rx q item index d0 d1 d2) s = .next dup)) ∧
    (∀ (target : Addr) (item index : Byte), target ≠ s.address →
      (NewFrame s rx → exec (.queryOtherTarget rx target item index) s = .next h) ∧
      (¬NewFrame s rx → exec (.queryOtherTarget rx target item index) s = .next dup)) ∧
    (∀ item index : Byte,
      exec (.queryOtherTarget rx s.address item index) s = exec (.queryUnknownItem rx item index) s) ∧
    (s.bus.station = .conflict → NewFrame s rx → ∀ (ch : Channel) (k : InstNo) (item index : Byte), ch ≠ 0 →
      (∀ n dir, n ≠ 0 → exec (.edgeArrival rx ch n dir) s = .next h) ∧
      (∀ re, exec (.holdArrival rx ch k re) s = .next h) ∧ exec (.clearArrival rx ch k) s = .next h ∧
      (∀ owner, exec (.releaseArrival rx ch owner k) s = .next h) ∧
      ∀ c ∈ [Instr.querySummary rx index, .querySource rx index, .queryAccept rx index, .queryGenerator rx index,
          .queryCounter rx index, .queryRoster rx index, .queryTally rx index, .queryOutputs rx index,
          .queryGroups rx index, .faultReset rx index, .queryRestart rx index, .queryUnknownItem rx item index],
        exec c s = .next h)

/-- A duplicate EDGE, HOLD, CLEAR, RELEASE or QUERY to this station, of whatever item, is counted and not delivered, in
every station state (R146, R148). -/
def Obligations.DuplicatesAreNotDelivered : Prop :=
  ∀ (s : State) (rx : Rx) (c : Instr), Receiving s → rx.sender ≠ s.address → ¬NewFrame s rx →
    ((∃ ch n d, ch ≠ 0 ∧ n ≠ 0 ∧ c = .edgeArrival rx ch n d) ∨ (∃ ch k re, ch ≠ 0 ∧ c = .holdArrival rx ch k re) ∨
      (∃ ch k, ch ≠ 0 ∧ c = .clearArrival rx ch k) ∨ (∃ ch o k, ch ≠ 0 ∧ c = .releaseArrival rx ch o k) ∨
      (∃ item index, c ∈ [Instr.querySummary rx index, .querySource rx index, .queryAccept rx index,
        .queryGenerator rx index, .queryCounter rx index, .queryRoster rx index, .queryTally rx index,
        .queryOutputs rx index, .queryGroups rx index, .faultReset rx index, .queryRestart rx index,
        .queryUnknownItem rx item index])) →
    exec c s =
      .next (State.settle { s.heardFrom rx with tallies := upd s.tallies 6 (satInc (look s.tallies 6)) })

/-- JOIN_ARRIVAL: the signature is stored and compared, a fresh JOIN counts unless it repeats the last sequence, and
purges the sender's records (R156, R157). -/
def Obligations.JoinArrivalStoresTheSignature : Prop :=
  ∀ (s : State) (rx : Rx) (fresh : Bool) (sig : Signature), Receiving s → rx.sender ≠ s.address →
    let e := s.rosterAt rx.sender
    let h : State := { s.heardFrom rx with
      roster := upd s.roster (addrIdx rx.sender)
        { state := .present, silence := 0, lastSeq := some rx.seq, signature := some sig
          freshJoins := if fresh = true ∧ e.lastSeq ≠ some rx.seq then satInc e.freshJoins else e.freshJoins }
      faults :=
        if s.bus.requireCommonImage = true ∧ sig ≠ s.loader.signature.getD 0 then
          { s.faults with imageMismatch := true }
        else s.faults }
    exec (.joinArrival rx fresh sig) s = .next (if fresh then (h.purge rx.sender).settle else h.settle)

/-- A purge removes every record of its sender and no other. It takes the records in ascending slot index: the clear
actions of the record's duties run in duty order, none in CONFLICT, and then the record is gone and its RELEASE given up,
which withdraws a WAITING entry and leaves an ON-BUS one unwanted (R47, R50, R57, R69, R131); that mark is the model's (log
entry 19). -/
def Obligations.PurgeRemovesTheSendersRecords : Prop :=
  (∀ (s : State) (a : Addr) (j : Fin 8),
    (∀ r : AcceptRecord, s.slot j = some r → r.sender = a → (s.purge a).slot j = none ∧ j ∉ (s.purge a).ageOrder) ∧
    (∀ r : AcceptRecord, s.slot j = some r → r.sender ≠ a → ∃ q : AcceptRecord,
      (s.purge a).slot j = some q ∧ q.sender = r.sender ∧ q.channel = r.channel ∧ q.inst = r.inst) ∧
    (s.slot j = none → (s.purge a).slot j = none)) ∧
  (∀ (s : State) (a : Addr),
    s.purge a = [0, 1, 2, 3, 4, 5, 6, 7].foldl (fun t j => t.purgeSlot a j) s ∧
    ∀ (j : Fin 8) (r : AcceptRecord), s.slot j = some r →
      let u := if s.bus.station = .conflict then s else r.duties.foldl (fun t w => t.clearAct w.sub) s
      s.purgeSlot a j =
        if r.sender = a then
          { u with
            slots := upd u.slots j none
            ageOrder := u.ageOrder.filter (fun i => i != j)
            tx := giveUp (.record j) u.tx }
        else s) ∧
  ∀ (p : Producer) (l l' : List TxEntry) (e : TxEntry), (∀ f ∈ l, f.producer ≠ p) → e.producer = p →
    giveUp p l = l ∧ (e.onBus = false → giveUp p (l ++ e :: l') = l ++ l') ∧
      (e.onBus = true → giveUp p (l ++ e :: l') = l ++ { e with unwanted := true } :: l')

/-- BEACON_INTERVAL_EXPIRY: the timer starts again, every PRESENT entry ages and goes LOST at 3 with its last sequence
absent, the others stay, and PRESENCE is owed by a JOINED station that won nothing in the interval (R152, R153, R158).
The addresses that go LOST are reported in ascending order, to the source table, which waives them, and to the acceptance
table, which purges them (R39, R50, R154); where both have something to take, the order between the two blocks is the free
value of log entry 9, and in either order no record of a lost sender remains and no entry that waives still requires a lost
address. That the time base goes to the timer's end is the model's choice (log entry 3). -/
def Obligations.BeaconExpiryAgesTheRoster : Prop :=
  ∀ (s : State) (d : Nat), s.beacon.timer = some d →
    let now := max s.time d
    let owes := s.bus.station = .joined ∧ s.beacon.won = false ∧ s.beacon.owesPresence = false ∧
      ∀ e ∈ s.tx, e.kind ≠ .presence
    let lost : List Addr := ((indices 32).filter (fun a =>
      (look s.roster a).state = .present ∧ 2 ≤ (look s.roster a).silence.toNat)).map (fun a => BitVec.ofNat 5 a.val)
    ∃ (u t : State),
      exec .beaconIntervalExpiry s = .next t ∧ t = u.settle ∧ u.time = now ∧
      u.beacon.timer = some (now + s.bus.beaconInterval.toNat * 10000) ∧ u.beacon.won = false ∧
      (∀ a : Fin 32,
        let e := look s.roster a
        (e.state ≠ .present → look t.roster a = e) ∧
        (e.state = .present → e.silence.toNat < 2 → look t.roster a = { e with silence := e.silence + 1 }) ∧
        (e.state = .present → 2 ≤ e.silence.toNat →
          look t.roster a = { e with silence := 3, state := .lost, lastSeq := none })) ∧
      (let aged : State := { s with
          time := now
          roster := u.roster
          beacon := { s.beacon with
            timer := some (now + s.bus.beaconInterval.toNat * 10000)
            won := false
            owesPresence := s.beacon.owesPresence || decide owes } }
      ((∀ j, s.slot j = none) → (∀ i, (s.source i).waiveLost = false) → u = aged) ∧
      ((∀ j, s.slot j = none) → u = lost.foldl State.waive aged) ∧
      ((∀ i, (s.source i).waiveLost = false) → u = lost.foldl State.purge aged)) ∧
      (∀ a ∈ lost, ∀ j, ∀ r ∈ t.slot j, r.sender ≠ a) ∧
      (∀ i,
        let e := t.source i
        e.isHold = true → e.quorum = 0 → e.waiveLost = true →
        e.holdState = .announcing ∨ e.holdState = .awaiting ∨ e.holdState = .orphaned → ∀ a ∈ lost, a ∉ e.required)

/-! ## Queries -/

/-- A new QUERY to this station is dropped and counted while a reply is SENDING, and otherwise sets the pending reply,
refused or not by the checks of R168 in their order; the REPORT of a LISTED reply is withdrawn (R164, R165, R168). The
two maintenance items have a statement of their own. -/
def Obligations.QuerySetsThePendingReply : Prop :=
  ∀ (s : State) (rx : Rx) (item index : Byte) (c : Instr),
    Receiving s → Acting s → rx.sender ≠ s.address → NewFrame s rx →
    ((c = .querySummary rx index ∧ item = 0) ∨ (c = .querySource rx index ∧ item = 1) ∨
      (c = .queryAccept rx index ∧ item = 2) ∨ (c = .queryGenerator rx index ∧ item = 3) ∨
      (c = .queryCounter rx index ∧ item = 4) ∨ (c = .queryRoster rx index ∧ item = 5) ∨
      (c = .queryTally rx index ∧ item = 6) ∨ (c = .queryOutputs rx index ∧ item = 7) ∨
      (c = .queryGroups rx index ∧ item = 8) ∨ (c = .queryUnknownItem rx item index ∧ 10 < item.toNat)) →
    let h := s.heardFrom rx
    let inRange : Prop :=
      (item = 0 ∧ index = 0) ∨ (item = 1 ∧ index.toNat < 32) ∨ (item = 2 ∧ index.toNat < 16) ∨
      (item = 3 ∧ index.toNat < 8) ∨ (item = 4 ∧ index.toNat < 8) ∨ (item = 5 ∧ index.toNat < 64) ∨
      (item = 6 ∧ index.toNat < 10) ∨ (item = 7 ∧ index.toNat < 3) ∨ (item = 8 ∧ index = 0)
    (∀ r, s.reply = some r → r.state = .sending →
      exec c s = .next (State.settle { h with tallies := upd s.tallies 8 (satInc (look s.tallies 8)) })) ∧
    ((∀ r ∈ s.reply, r.state ≠ .sending) → ∃ a : Answer,
      exec c s =
        .next (State.settle { h with
          tx := withdrawWaiting .responder s.tx
          reply := some { querier := rx.sender, item := item, index := index, answer := a, restart := false,
                          state := .owed } }) ∧
      (inRange → a = .data) ∧ (item.toNat ≤ 8 → ¬inRange → a = .refused 2) ∧ (10 < item.toNat → a = .refused 1))

/-- FAULT_RESET and QUERY_RESTART: carried out for the maintenance address only; FAULT-RESET clears the latched kinds,
the tallies and the fresh-join tallies, RESTART sets the restart flag; an index other than 0 is refused, and a QUERY that
finds a reply SENDING is dropped (R165, R168, R170, R171, R172). -/
def Obligations.MaintenanceItemsAreForTheMaintenanceAddress : Prop :=
  ∀ (s : State) (rx : Rx), Receiving s → Acting s → rx.sender ≠ s.address → NewFrame s rx →
    let h := s.heardFrom rx
    let replied (u : State) (item index : Byte) (a : Answer) (re : Bool) : Result :=
      .next (State.settle { u with
        tx := withdrawWaiting .responder s.tx
        reply := some { querier := rx.sender, item := item, index := index, answer := a, restart := re, state := .owed } })
    let cleared : State := { h with
      faults := { s.faults with undelivered := false, acceptOverflow := false, lostEdges := false, collision := false,
                                imageMismatch := false }
      tallies := Vector.replicate 10 0
      roster := h.roster.map (fun e => { e with freshJoins := 0 }) }
    (∀ (index : Byte) (r : Reply), s.reply = some r → r.state = .sending →
      let dropped : State := { h with tallies := upd s.tallies 8 (satInc (look s.tallies 8)) }
      exec (.faultReset rx index) s = .next dropped.settle ∧ exec (.queryRestart rx index) s = .next dropped.settle) ∧
    ((∀ r ∈ s.reply, r.state ≠ .sending) →
      (∀ index : Byte, index ≠ 0 →
        exec (.faultReset rx index) s = replied h 9 index (.refused 2) false ∧
        exec (.queryRestart rx index) s = replied h 10 index (.refused 2) false) ∧
      (s.maintenance = some rx.sender →
        exec (.faultReset rx 0) s = replied cleared 9 0 .data false ∧
        exec (.queryRestart rx 0) s = replied h 10 0 .data true) ∧
      (s.maintenance = none →
        exec (.faultReset rx 0) s = replied h 9 0 (.refused 4) false ∧
        exec (.queryRestart rx 0) s = replied h 10 0 (.refused 4) false) ∧
      (∀ m, s.maintenance = some m → m ≠ rx.sender →
        exec (.faultReset rx 0) s = replied h 9 0 (.refused 3) false ∧
        exec (.queryRestart rx 0) s = replied h 10 0 (.refused 3) false))

/-! ## Frames -/

/-- A receiver of the cells that a station sends for a frame of the format of R121 finds that frame, correct: cells,
CRC, fields and payload agree between sender and receiver; and a frame that departs from its kind in channel, repeat
count or station state code is found in format error (R116, R117, R118, R119, R121). -/
def Obligations.ReceiverReadsTheFrameSent : Prop :=
  ∀ f : Frame, verdict f.cells = if f.formatOk then .correct f else .formatError

/-! ## What every step keeps -/

/-- The transmit list keeps the order of R128, one entry a producer, and its ON-BUS entry. -/
def Obligations.StepKeepsTheTransmitList : Prop :=
  ∀ s t : State, TxSafe s → step s = .next t → TxSafe t

/-- The list is empty where the station state admits nothing, the station is OFFLINE until the loader ends, and the
consecutive-failure count stays below 32; and the image values of the bus interface and the responder stay at the defaults
of FAILED until READY, which before FAILED is the model's choice (log entry 7). -/
def Obligations.StepKeepsTheListEmptyOffTheBus : Prop :=
  ∀ s t : State, step s = .next t →
    (AdmissionSafe s → FailuresSafe s → AdmissionSafe t ∧ FailuresSafe t) ∧ (DefaultsSafe s → DefaultsSafe t)

/-- A counter's value stays in the range of its mode, and the roster keeps exactly one SELF entry, at the own
address. -/
def Obligations.StepKeepsCountersAndOneSelfEntry : Prop :=
  ∀ s t : State, step s = .next t → (CountersSafe s → CountersSafe t) ∧ (RosterSafe s → RosterSafe t)

/-- The forced-safe flags follow the station state. -/
def Obligations.StepKeepsLinesForcedSafe : Prop :=
  ∀ s t : State, ForcedSafe s → step s = .next t → ForcedSafe t

/-- The run state of every generator fits its phase, and the claims fit the generators. -/
def Obligations.StepKeepsGeneratorsAndClaims : Prop :=
  ∀ s t : State, GeneratorsSafe s → step s = .next t → GeneratorsSafe t

/-- The source table: the hold timers run in their states only, a drop is noted in ANNOUNCING only, which is the model's
reading of R35 (log entry 22), ORPHANED is in the fault set exactly while an entry is ORPHANED, and the collected releases
stay at most 4 distinct addresses of peers (R29, R30, R33, R34). The edge run state of an entry fits its state, a hold-mode
entry stays in IDLE, and the EDGE frames in the transmit list are those of the entries in LISTED and SENDING (section 1.3,
R13, R14); that no EDGE bears the mark of an entry given up rests on log entry 19. -/
def Obligations.StepKeepsTheSourceTable : Prop :=
  ∀ s t : State, step s = .next t →
    (HoldsSafe s → ReleasesSafe s → HoldsSafe t ∧ ReleasesSafe t) ∧
    (TxSafe s → AdmissionSafe s → EdgesSafe s → EdgesSafe t)

/-- The acceptance table keeps at most one record a sender and channel, of peers only, each with 1 to 4 duties, and
listed once in the age order. -/
def Obligations.StepKeepsTheAcceptanceTable : Prop :=
  ∀ s t : State, AcceptanceSafe s → step s = .next t → AcceptanceSafe t

/-- The state after reset has every one of these. The reset values that DefaultsSafe speaks of are the model's choice (log
entry 7). -/
def Obligations.ResetIsSafe : Prop :=
  TxSafe State.reset ∧ AdmissionSafe State.reset ∧ FailuresSafe State.reset ∧ RosterSafe State.reset ∧ CountersSafe State.reset ∧
  ForcedSafe State.reset ∧ GeneratorsSafe State.reset ∧ ReleasesSafe State.reset ∧ HoldsSafe State.reset ∧
  AcceptanceSafe State.reset ∧ DefaultsSafe State.reset ∧ EdgesSafe State.reset
end

