-- ==== Sys2Proof/Laws/State.lean ====
section
/-! SUPPORT. One lemma a field for each update of the state, true by rfl, so that no proof unfolds a record update; and
what reading one entry of a table gives after an update. -/

namespace Sys2Proof.Machine.State

@[simp] theorem setTime_time (s : State) (x : Nat) : (s.setTime x).time = x := rfl
@[simp] theorem setTime_pins (s : State) (x : Nat) : (s.setTime x).pins = s.pins := rfl
@[simp] theorem setTime_address (s : State) (x : Nat) : (s.setTime x).address = s.address := rfl
@[simp] theorem setTime_rate (s : State) (x : Nat) : (s.setTime x).rate = s.rate := rfl
@[simp] theorem setTime_inputs (s : State) (x : Nat) : (s.setTime x).inputs = s.inputs := rfl
@[simp] theorem setTime_sources (s : State) (x : Nat) : (s.setTime x).sources = s.sources := rfl
@[simp] theorem setTime_releaseTimeout (s : State) (x : Nat) : (s.setTime x).releaseTimeout = s.releaseTimeout := rfl
@[simp] theorem setTime_slots (s : State) (x : Nat) : (s.setTime x).slots = s.slots := rfl
@[simp] theorem setTime_ageOrder (s : State) (x : Nat) : (s.setTime x).ageOrder = s.ageOrder := rfl
@[simp] theorem setTime_subs (s : State) (x : Nat) : (s.setTime x).subs = s.subs := rfl
@[simp] theorem setTime_groups (s : State) (x : Nat) : (s.setTime x).groups = s.groups := rfl
@[simp] theorem setTime_profiles (s : State) (x : Nat) : (s.setTime x).profiles = s.profiles := rfl
@[simp] theorem setTime_gens (s : State) (x : Nat) : (s.setTime x).gens = s.gens := rfl
@[simp] theorem setTime_outs (s : State) (x : Nat) : (s.setTime x).outs = s.outs := rfl
@[simp] theorem setTime_counters (s : State) (x : Nat) : (s.setTime x).counters = s.counters := rfl
@[simp] theorem setTime_tx (s : State) (x : Nat) : (s.setTime x).tx = s.tx := rfl
@[simp] theorem setTime_bus (s : State) (x : Nat) : (s.setTime x).bus = s.bus := rfl
@[simp] theorem setTime_beacon (s : State) (x : Nat) : (s.setTime x).beacon = s.beacon := rfl
@[simp] theorem setTime_roster (s : State) (x : Nat) : (s.setTime x).roster = s.roster := rfl
@[simp] theorem setTime_reply (s : State) (x : Nat) : (s.setTime x).reply = s.reply := rfl
@[simp] theorem setTime_maintenance (s : State) (x : Nat) : (s.setTime x).maintenance = s.maintenance := rfl
@[simp] theorem setTime_faults (s : State) (x : Nat) : (s.setTime x).faults = s.faults := rfl
@[simp] theorem setTime_tallies (s : State) (x : Nat) : (s.setTime x).tallies = s.tallies := rfl
@[simp] theorem setTime_loader (s : State) (x : Nat) : (s.setTime x).loader = s.loader := rfl
@[simp] theorem setTime_freeCount (s : State) (x : Nat) : (s.setTime x).freeCount = s.freeCount := rfl
@[simp] theorem setTime_pending (s : State) (x : Nat) : (s.setTime x).pending = s.pending := rfl

@[simp] theorem setPin_time (s : State) (n : Fin 16) (x : Bool) : (s.setPin n x).time = s.time := rfl
@[simp] theorem setPin_pins (s : State) (n : Fin 16) (x : Bool) : (s.setPin n x).pins = upd s.pins n x := rfl
@[simp] theorem setPin_address (s : State) (n : Fin 16) (x : Bool) : (s.setPin n x).address = s.address := rfl
@[simp] theorem setPin_rate (s : State) (n : Fin 16) (x : Bool) : (s.setPin n x).rate = s.rate := rfl
@[simp] theorem setPin_inputs (s : State) (n : Fin 16) (x : Bool) : (s.setPin n x).inputs = s.inputs := rfl
@[simp] theorem setPin_sources (s : State) (n : Fin 16) (x : Bool) : (s.setPin n x).sources = s.sources := rfl
@[simp] theorem setPin_releaseTimeout (s : State) (n : Fin 16) (x : Bool) : (s.setPin n x).releaseTimeout = s.releaseTimeout := rfl
@[simp] theorem setPin_slots (s : State) (n : Fin 16) (x : Bool) : (s.setPin n x).slots = s.slots := rfl
@[simp] theorem setPin_ageOrder (s : State) (n : Fin 16) (x : Bool) : (s.setPin n x).ageOrder = s.ageOrder := rfl
@[simp] theorem setPin_subs (s : State) (n : Fin 16) (x : Bool) : (s.setPin n x).subs = s.subs := rfl
@[simp] theorem setPin_groups (s : State) (n : Fin 16) (x : Bool) : (s.setPin n x).groups = s.groups := rfl
@[simp] theorem setPin_profiles (s : State) (n : Fin 16) (x : Bool) : (s.setPin n x).profiles = s.profiles := rfl
@[simp] theorem setPin_gens (s : State) (n : Fin 16) (x : Bool) : (s.setPin n x).gens = s.gens := rfl
@[simp] theorem setPin_outs (s : State) (n : Fin 16) (x : Bool) : (s.setPin n x).outs = s.outs := rfl
@[simp] theorem setPin_counters (s : State) (n : Fin 16) (x : Bool) : (s.setPin n x).counters = s.counters := rfl
@[simp] theorem setPin_tx (s : State) (n : Fin 16) (x : Bool) : (s.setPin n x).tx = s.tx := rfl
@[simp] theorem setPin_bus (s : State) (n : Fin 16) (x : Bool) : (s.setPin n x).bus = s.bus := rfl
@[simp] theorem setPin_beacon (s : State) (n : Fin 16) (x : Bool) : (s.setPin n x).beacon = s.beacon := rfl
@[simp] theorem setPin_roster (s : State) (n : Fin 16) (x : Bool) : (s.setPin n x).roster = s.roster := rfl
@[simp] theorem setPin_reply (s : State) (n : Fin 16) (x : Bool) : (s.setPin n x).reply = s.reply := rfl
@[simp] theorem setPin_maintenance (s : State) (n : Fin 16) (x : Bool) : (s.setPin n x).maintenance = s.maintenance := rfl
@[simp] theorem setPin_faults (s : State) (n : Fin 16) (x : Bool) : (s.setPin n x).faults = s.faults := rfl
@[simp] theorem setPin_tallies (s : State) (n : Fin 16) (x : Bool) : (s.setPin n x).tallies = s.tallies := rfl
@[simp] theorem setPin_loader (s : State) (n : Fin 16) (x : Bool) : (s.setPin n x).loader = s.loader := rfl
@[simp] theorem setPin_freeCount (s : State) (n : Fin 16) (x : Bool) : (s.setPin n x).freeCount = s.freeCount := rfl
@[simp] theorem setPin_pending (s : State) (n : Fin 16) (x : Bool) : (s.setPin n x).pending = s.pending := rfl

@[simp] theorem setInput_time (s : State) (n : Fin 16) (x : InputLine) : (s.setInput n x).time = s.time := rfl
@[simp] theorem setInput_pins (s : State) (n : Fin 16) (x : InputLine) : (s.setInput n x).pins = s.pins := rfl
@[simp] theorem setInput_address (s : State) (n : Fin 16) (x : InputLine) : (s.setInput n x).address = s.address := rfl
@[simp] theorem setInput_rate (s : State) (n : Fin 16) (x : InputLine) : (s.setInput n x).rate = s.rate := rfl
@[simp] theorem setInput_inputs (s : State) (n : Fin 16) (x : InputLine) : (s.setInput n x).inputs = upd s.inputs n x := rfl
@[simp] theorem setInput_sources (s : State) (n : Fin 16) (x : InputLine) : (s.setInput n x).sources = s.sources := rfl
@[simp] theorem setInput_releaseTimeout (s : State) (n : Fin 16) (x : InputLine) : (s.setInput n x).releaseTimeout = s.releaseTimeout := rfl
@[simp] theorem setInput_slots (s : State) (n : Fin 16) (x : InputLine) : (s.setInput n x).slots = s.slots := rfl
@[simp] theorem setInput_ageOrder (s : State) (n : Fin 16) (x : InputLine) : (s.setInput n x).ageOrder = s.ageOrder := rfl
@[simp] theorem setInput_subs (s : State) (n : Fin 16) (x : InputLine) : (s.setInput n x).subs = s.subs := rfl
@[simp] theorem setInput_groups (s : State) (n : Fin 16) (x : InputLine) : (s.setInput n x).groups = s.groups := rfl
@[simp] theorem setInput_profiles (s : State) (n : Fin 16) (x : InputLine) : (s.setInput n x).profiles = s.profiles := rfl
@[simp] theorem setInput_gens (s : State) (n : Fin 16) (x : InputLine) : (s.setInput n x).gens = s.gens := rfl
@[simp] theorem setInput_outs (s : State) (n : Fin 16) (x : InputLine) : (s.setInput n x).outs = s.outs := rfl
@[simp] theorem setInput_counters (s : State) (n : Fin 16) (x : InputLine) : (s.setInput n x).counters = s.counters := rfl
@[simp] theorem setInput_tx (s : State) (n : Fin 16) (x : InputLine) : (s.setInput n x).tx = s.tx := rfl
@[simp] theorem setInput_bus (s : State) (n : Fin 16) (x : InputLine) : (s.setInput n x).bus = s.bus := rfl
@[simp] theorem setInput_beacon (s : State) (n : Fin 16) (x : InputLine) : (s.setInput n x).beacon = s.beacon := rfl
@[simp] theorem setInput_roster (s : State) (n : Fin 16) (x : InputLine) : (s.setInput n x).roster = s.roster := rfl
@[simp] theorem setInput_reply (s : State) (n : Fin 16) (x : InputLine) : (s.setInput n x).reply = s.reply := rfl
@[simp] theorem setInput_maintenance (s : State) (n : Fin 16) (x : InputLine) : (s.setInput n x).maintenance = s.maintenance := rfl
@[simp] theorem setInput_faults (s : State) (n : Fin 16) (x : InputLine) : (s.setInput n x).faults = s.faults := rfl
@[simp] theorem setInput_tallies (s : State) (n : Fin 16) (x : InputLine) : (s.setInput n x).tallies = s.tallies := rfl
@[simp] theorem setInput_loader (s : State) (n : Fin 16) (x : InputLine) : (s.setInput n x).loader = s.loader := rfl
@[simp] theorem setInput_freeCount (s : State) (n : Fin 16) (x : InputLine) : (s.setInput n x).freeCount = s.freeCount := rfl
@[simp] theorem setInput_pending (s : State) (n : Fin 16) (x : InputLine) : (s.setInput n x).pending = s.pending := rfl

@[simp] theorem setSource_time (s : State) (n : Fin 16) (x : SourceEntry) : (s.setSource n x).time = s.time := rfl
@[simp] theorem setSource_pins (s : State) (n : Fin 16) (x : SourceEntry) : (s.setSource n x).pins = s.pins := rfl
@[simp] theorem setSource_address (s : State) (n : Fin 16) (x : SourceEntry) : (s.setSource n x).address = s.address := rfl
@[simp] theorem setSource_rate (s : State) (n : Fin 16) (x : SourceEntry) : (s.setSource n x).rate = s.rate := rfl
@[simp] theorem setSource_inputs (s : State) (n : Fin 16) (x : SourceEntry) : (s.setSource n x).inputs = s.inputs := rfl
@[simp] theorem setSource_sources (s : State) (n : Fin 16) (x : SourceEntry) : (s.setSource n x).sources = upd s.sources n x := rfl
@[simp] theorem setSource_releaseTimeout (s : State) (n : Fin 16) (x : SourceEntry) : (s.setSource n x).releaseTimeout = s.releaseTimeout := rfl
@[simp] theorem setSource_slots (s : State) (n : Fin 16) (x : SourceEntry) : (s.setSource n x).slots = s.slots := rfl
@[simp] theorem setSource_ageOrder (s : State) (n : Fin 16) (x : SourceEntry) : (s.setSource n x).ageOrder = s.ageOrder := rfl
@[simp] theorem setSource_subs (s : State) (n : Fin 16) (x : SourceEntry) : (s.setSource n x).subs = s.subs := rfl
@[simp] theorem setSource_groups (s : State) (n : Fin 16) (x : SourceEntry) : (s.setSource n x).groups = s.groups := rfl
@[simp] theorem setSource_profiles (s : State) (n : Fin 16) (x : SourceEntry) : (s.setSource n x).profiles = s.profiles := rfl
@[simp] theorem setSource_gens (s : State) (n : Fin 16) (x : SourceEntry) : (s.setSource n x).gens = s.gens := rfl
@[simp] theorem setSource_outs (s : State) (n : Fin 16) (x : SourceEntry) : (s.setSource n x).outs = s.outs := rfl
@[simp] theorem setSource_counters (s : State) (n : Fin 16) (x : SourceEntry) : (s.setSource n x).counters = s.counters := rfl
@[simp] theorem setSource_tx (s : State) (n : Fin 16) (x : SourceEntry) : (s.setSource n x).tx = s.tx := rfl
@[simp] theorem setSource_bus (s : State) (n : Fin 16) (x : SourceEntry) : (s.setSource n x).bus = s.bus := rfl
@[simp] theorem setSource_beacon (s : State) (n : Fin 16) (x : SourceEntry) : (s.setSource n x).beacon = s.beacon := rfl
@[simp] theorem setSource_roster (s : State) (n : Fin 16) (x : SourceEntry) : (s.setSource n x).roster = s.roster := rfl
@[simp] theorem setSource_reply (s : State) (n : Fin 16) (x : SourceEntry) : (s.setSource n x).reply = s.reply := rfl
@[simp] theorem setSource_maintenance (s : State) (n : Fin 16) (x : SourceEntry) : (s.setSource n x).maintenance = s.maintenance := rfl
@[simp] theorem setSource_faults (s : State) (n : Fin 16) (x : SourceEntry) : (s.setSource n x).faults = s.faults := rfl
@[simp] theorem setSource_tallies (s : State) (n : Fin 16) (x : SourceEntry) : (s.setSource n x).tallies = s.tallies := rfl
@[simp] theorem setSource_loader (s : State) (n : Fin 16) (x : SourceEntry) : (s.setSource n x).loader = s.loader := rfl
@[simp] theorem setSource_freeCount (s : State) (n : Fin 16) (x : SourceEntry) : (s.setSource n x).freeCount = s.freeCount := rfl
@[simp] theorem setSource_pending (s : State) (n : Fin 16) (x : SourceEntry) : (s.setSource n x).pending = s.pending := rfl

@[simp] theorem setSlot_time (s : State) (n : Fin 8) (x : Option AcceptRecord) : (s.setSlot n x).time = s.time := rfl
@[simp] theorem setSlot_pins (s : State) (n : Fin 8) (x : Option AcceptRecord) : (s.setSlot n x).pins = s.pins := rfl
@[simp] theorem setSlot_address (s : State) (n : Fin 8) (x : Option AcceptRecord) : (s.setSlot n x).address = s.address := rfl
@[simp] theorem setSlot_rate (s : State) (n : Fin 8) (x : Option AcceptRecord) : (s.setSlot n x).rate = s.rate := rfl
@[simp] theorem setSlot_inputs (s : State) (n : Fin 8) (x : Option AcceptRecord) : (s.setSlot n x).inputs = s.inputs := rfl
@[simp] theorem setSlot_sources (s : State) (n : Fin 8) (x : Option AcceptRecord) : (s.setSlot n x).sources = s.sources := rfl
@[simp] theorem setSlot_releaseTimeout (s : State) (n : Fin 8) (x : Option AcceptRecord) : (s.setSlot n x).releaseTimeout = s.releaseTimeout := rfl
@[simp] theorem setSlot_slots (s : State) (n : Fin 8) (x : Option AcceptRecord) : (s.setSlot n x).slots = upd s.slots n x := rfl
@[simp] theorem setSlot_ageOrder (s : State) (n : Fin 8) (x : Option AcceptRecord) : (s.setSlot n x).ageOrder = s.ageOrder := rfl
@[simp] theorem setSlot_subs (s : State) (n : Fin 8) (x : Option AcceptRecord) : (s.setSlot n x).subs = s.subs := rfl
@[simp] theorem setSlot_groups (s : State) (n : Fin 8) (x : Option AcceptRecord) : (s.setSlot n x).groups = s.groups := rfl
@[simp] theorem setSlot_profiles (s : State) (n : Fin 8) (x : Option AcceptRecord) : (s.setSlot n x).profiles = s.profiles := rfl
@[simp] theorem setSlot_gens (s : State) (n : Fin 8) (x : Option AcceptRecord) : (s.setSlot n x).gens = s.gens := rfl
@[simp] theorem setSlot_outs (s : State) (n : Fin 8) (x : Option AcceptRecord) : (s.setSlot n x).outs = s.outs := rfl
@[simp] theorem setSlot_counters (s : State) (n : Fin 8) (x : Option AcceptRecord) : (s.setSlot n x).counters = s.counters := rfl
@[simp] theorem setSlot_tx (s : State) (n : Fin 8) (x : Option AcceptRecord) : (s.setSlot n x).tx = s.tx := rfl
@[simp] theorem setSlot_bus (s : State) (n : Fin 8) (x : Option AcceptRecord) : (s.setSlot n x).bus = s.bus := rfl
@[simp] theorem setSlot_beacon (s : State) (n : Fin 8) (x : Option AcceptRecord) : (s.setSlot n x).beacon = s.beacon := rfl
@[simp] theorem setSlot_roster (s : State) (n : Fin 8) (x : Option AcceptRecord) : (s.setSlot n x).roster = s.roster := rfl
@[simp] theorem setSlot_reply (s : State) (n : Fin 8) (x : Option AcceptRecord) : (s.setSlot n x).reply = s.reply := rfl
@[simp] theorem setSlot_maintenance (s : State) (n : Fin 8) (x : Option AcceptRecord) : (s.setSlot n x).maintenance = s.maintenance := rfl
@[simp] theorem setSlot_faults (s : State) (n : Fin 8) (x : Option AcceptRecord) : (s.setSlot n x).faults = s.faults := rfl
@[simp] theorem setSlot_tallies (s : State) (n : Fin 8) (x : Option AcceptRecord) : (s.setSlot n x).tallies = s.tallies := rfl
@[simp] theorem setSlot_loader (s : State) (n : Fin 8) (x : Option AcceptRecord) : (s.setSlot n x).loader = s.loader := rfl
@[simp] theorem setSlot_freeCount (s : State) (n : Fin 8) (x : Option AcceptRecord) : (s.setSlot n x).freeCount = s.freeCount := rfl
@[simp] theorem setSlot_pending (s : State) (n : Fin 8) (x : Option AcceptRecord) : (s.setSlot n x).pending = s.pending := rfl

@[simp] theorem setAge_time (s : State) (x : List (Fin 8)) : (s.setAge x).time = s.time := rfl
@[simp] theorem setAge_pins (s : State) (x : List (Fin 8)) : (s.setAge x).pins = s.pins := rfl
@[simp] theorem setAge_address (s : State) (x : List (Fin 8)) : (s.setAge x).address = s.address := rfl
@[simp] theorem setAge_rate (s : State) (x : List (Fin 8)) : (s.setAge x).rate = s.rate := rfl
@[simp] theorem setAge_inputs (s : State) (x : List (Fin 8)) : (s.setAge x).inputs = s.inputs := rfl
@[simp] theorem setAge_sources (s : State) (x : List (Fin 8)) : (s.setAge x).sources = s.sources := rfl
@[simp] theorem setAge_releaseTimeout (s : State) (x : List (Fin 8)) : (s.setAge x).releaseTimeout = s.releaseTimeout := rfl
@[simp] theorem setAge_slots (s : State) (x : List (Fin 8)) : (s.setAge x).slots = s.slots := rfl
@[simp] theorem setAge_ageOrder (s : State) (x : List (Fin 8)) : (s.setAge x).ageOrder = x := rfl
@[simp] theorem setAge_subs (s : State) (x : List (Fin 8)) : (s.setAge x).subs = s.subs := rfl
@[simp] theorem setAge_groups (s : State) (x : List (Fin 8)) : (s.setAge x).groups = s.groups := rfl
@[simp] theorem setAge_profiles (s : State) (x : List (Fin 8)) : (s.setAge x).profiles = s.profiles := rfl
@[simp] theorem setAge_gens (s : State) (x : List (Fin 8)) : (s.setAge x).gens = s.gens := rfl
@[simp] theorem setAge_outs (s : State) (x : List (Fin 8)) : (s.setAge x).outs = s.outs := rfl
@[simp] theorem setAge_counters (s : State) (x : List (Fin 8)) : (s.setAge x).counters = s.counters := rfl
@[simp] theorem setAge_tx (s : State) (x : List (Fin 8)) : (s.setAge x).tx = s.tx := rfl
@[simp] theorem setAge_bus (s : State) (x : List (Fin 8)) : (s.setAge x).bus = s.bus := rfl
@[simp] theorem setAge_beacon (s : State) (x : List (Fin 8)) : (s.setAge x).beacon = s.beacon := rfl
@[simp] theorem setAge_roster (s : State) (x : List (Fin 8)) : (s.setAge x).roster = s.roster := rfl
@[simp] theorem setAge_reply (s : State) (x : List (Fin 8)) : (s.setAge x).reply = s.reply := rfl
@[simp] theorem setAge_maintenance (s : State) (x : List (Fin 8)) : (s.setAge x).maintenance = s.maintenance := rfl
@[simp] theorem setAge_faults (s : State) (x : List (Fin 8)) : (s.setAge x).faults = s.faults := rfl
@[simp] theorem setAge_tallies (s : State) (x : List (Fin 8)) : (s.setAge x).tallies = s.tallies := rfl
@[simp] theorem setAge_loader (s : State) (x : List (Fin 8)) : (s.setAge x).loader = s.loader := rfl
@[simp] theorem setAge_freeCount (s : State) (x : List (Fin 8)) : (s.setAge x).freeCount = s.freeCount := rfl
@[simp] theorem setAge_pending (s : State) (x : List (Fin 8)) : (s.setAge x).pending = s.pending := rfl

@[simp] theorem setGroup_time (s : State) (n : Fin 4) (x : Bool) : (s.setGroup n x).time = s.time := rfl
@[simp] theorem setGroup_pins (s : State) (n : Fin 4) (x : Bool) : (s.setGroup n x).pins = s.pins := rfl
@[simp] theorem setGroup_address (s : State) (n : Fin 4) (x : Bool) : (s.setGroup n x).address = s.address := rfl
@[simp] theorem setGroup_rate (s : State) (n : Fin 4) (x : Bool) : (s.setGroup n x).rate = s.rate := rfl
@[simp] theorem setGroup_inputs (s : State) (n : Fin 4) (x : Bool) : (s.setGroup n x).inputs = s.inputs := rfl
@[simp] theorem setGroup_sources (s : State) (n : Fin 4) (x : Bool) : (s.setGroup n x).sources = s.sources := rfl
@[simp] theorem setGroup_releaseTimeout (s : State) (n : Fin 4) (x : Bool) : (s.setGroup n x).releaseTimeout = s.releaseTimeout := rfl
@[simp] theorem setGroup_slots (s : State) (n : Fin 4) (x : Bool) : (s.setGroup n x).slots = s.slots := rfl
@[simp] theorem setGroup_ageOrder (s : State) (n : Fin 4) (x : Bool) : (s.setGroup n x).ageOrder = s.ageOrder := rfl
@[simp] theorem setGroup_subs (s : State) (n : Fin 4) (x : Bool) : (s.setGroup n x).subs = s.subs := rfl
@[simp] theorem setGroup_groups (s : State) (n : Fin 4) (x : Bool) : (s.setGroup n x).groups = upd s.groups n x := rfl
@[simp] theorem setGroup_profiles (s : State) (n : Fin 4) (x : Bool) : (s.setGroup n x).profiles = s.profiles := rfl
@[simp] theorem setGroup_gens (s : State) (n : Fin 4) (x : Bool) : (s.setGroup n x).gens = s.gens := rfl
@[simp] theorem setGroup_outs (s : State) (n : Fin 4) (x : Bool) : (s.setGroup n x).outs = s.outs := rfl
@[simp] theorem setGroup_counters (s : State) (n : Fin 4) (x : Bool) : (s.setGroup n x).counters = s.counters := rfl
@[simp] theorem setGroup_tx (s : State) (n : Fin 4) (x : Bool) : (s.setGroup n x).tx = s.tx := rfl
@[simp] theorem setGroup_bus (s : State) (n : Fin 4) (x : Bool) : (s.setGroup n x).bus = s.bus := rfl
@[simp] theorem setGroup_beacon (s : State) (n : Fin 4) (x : Bool) : (s.setGroup n x).beacon = s.beacon := rfl
@[simp] theorem setGroup_roster (s : State) (n : Fin 4) (x : Bool) : (s.setGroup n x).roster = s.roster := rfl
@[simp] theorem setGroup_reply (s : State) (n : Fin 4) (x : Bool) : (s.setGroup n x).reply = s.reply := rfl
@[simp] theorem setGroup_maintenance (s : State) (n : Fin 4) (x : Bool) : (s.setGroup n x).maintenance = s.maintenance := rfl
@[simp] theorem setGroup_faults (s : State) (n : Fin 4) (x : Bool) : (s.setGroup n x).faults = s.faults := rfl
@[simp] theorem setGroup_tallies (s : State) (n : Fin 4) (x : Bool) : (s.setGroup n x).tallies = s.tallies := rfl
@[simp] theorem setGroup_loader (s : State) (n : Fin 4) (x : Bool) : (s.setGroup n x).loader = s.loader := rfl
@[simp] theorem setGroup_freeCount (s : State) (n : Fin 4) (x : Bool) : (s.setGroup n x).freeCount = s.freeCount := rfl
@[simp] theorem setGroup_pending (s : State) (n : Fin 4) (x : Bool) : (s.setGroup n x).pending = s.pending := rfl

@[simp] theorem setGen_time (s : State) (n : Fin 8) (x : Generator) : (s.setGen n x).time = s.time := rfl
@[simp] theorem setGen_pins (s : State) (n : Fin 8) (x : Generator) : (s.setGen n x).pins = s.pins := rfl
@[simp] theorem setGen_address (s : State) (n : Fin 8) (x : Generator) : (s.setGen n x).address = s.address := rfl
@[simp] theorem setGen_rate (s : State) (n : Fin 8) (x : Generator) : (s.setGen n x).rate = s.rate := rfl
@[simp] theorem setGen_inputs (s : State) (n : Fin 8) (x : Generator) : (s.setGen n x).inputs = s.inputs := rfl
@[simp] theorem setGen_sources (s : State) (n : Fin 8) (x : Generator) : (s.setGen n x).sources = s.sources := rfl
@[simp] theorem setGen_releaseTimeout (s : State) (n : Fin 8) (x : Generator) : (s.setGen n x).releaseTimeout = s.releaseTimeout := rfl
@[simp] theorem setGen_slots (s : State) (n : Fin 8) (x : Generator) : (s.setGen n x).slots = s.slots := rfl
@[simp] theorem setGen_ageOrder (s : State) (n : Fin 8) (x : Generator) : (s.setGen n x).ageOrder = s.ageOrder := rfl
@[simp] theorem setGen_subs (s : State) (n : Fin 8) (x : Generator) : (s.setGen n x).subs = s.subs := rfl
@[simp] theorem setGen_groups (s : State) (n : Fin 8) (x : Generator) : (s.setGen n x).groups = s.groups := rfl
@[simp] theorem setGen_profiles (s : State) (n : Fin 8) (x : Generator) : (s.setGen n x).profiles = s.profiles := rfl
@[simp] theorem setGen_gens (s : State) (n : Fin 8) (x : Generator) : (s.setGen n x).gens = upd s.gens n x := rfl
@[simp] theorem setGen_outs (s : State) (n : Fin 8) (x : Generator) : (s.setGen n x).outs = s.outs := rfl
@[simp] theorem setGen_counters (s : State) (n : Fin 8) (x : Generator) : (s.setGen n x).counters = s.counters := rfl
@[simp] theorem setGen_tx (s : State) (n : Fin 8) (x : Generator) : (s.setGen n x).tx = s.tx := rfl
@[simp] theorem setGen_bus (s : State) (n : Fin 8) (x : Generator) : (s.setGen n x).bus = s.bus := rfl
@[simp] theorem setGen_beacon (s : State) (n : Fin 8) (x : Generator) : (s.setGen n x).beacon = s.beacon := rfl
@[simp] theorem setGen_roster (s : State) (n : Fin 8) (x : Generator) : (s.setGen n x).roster = s.roster := rfl
@[simp] theorem setGen_reply (s : State) (n : Fin 8) (x : Generator) : (s.setGen n x).reply = s.reply := rfl
@[simp] theorem setGen_maintenance (s : State) (n : Fin 8) (x : Generator) : (s.setGen n x).maintenance = s.maintenance := rfl
@[simp] theorem setGen_faults (s : State) (n : Fin 8) (x : Generator) : (s.setGen n x).faults = s.faults := rfl
@[simp] theorem setGen_tallies (s : State) (n : Fin 8) (x : Generator) : (s.setGen n x).tallies = s.tallies := rfl
@[simp] theorem setGen_loader (s : State) (n : Fin 8) (x : Generator) : (s.setGen n x).loader = s.loader := rfl
@[simp] theorem setGen_freeCount (s : State) (n : Fin 8) (x : Generator) : (s.setGen n x).freeCount = s.freeCount := rfl
@[simp] theorem setGen_pending (s : State) (n : Fin 8) (x : Generator) : (s.setGen n x).pending = s.pending := rfl

@[simp] theorem setOut_time (s : State) (n : Fin 8) (x : OutputLine) : (s.setOut n x).time = s.time := rfl
@[simp] theorem setOut_pins (s : State) (n : Fin 8) (x : OutputLine) : (s.setOut n x).pins = s.pins := rfl
@[simp] theorem setOut_address (s : State) (n : Fin 8) (x : OutputLine) : (s.setOut n x).address = s.address := rfl
@[simp] theorem setOut_rate (s : State) (n : Fin 8) (x : OutputLine) : (s.setOut n x).rate = s.rate := rfl
@[simp] theorem setOut_inputs (s : State) (n : Fin 8) (x : OutputLine) : (s.setOut n x).inputs = s.inputs := rfl
@[simp] theorem setOut_sources (s : State) (n : Fin 8) (x : OutputLine) : (s.setOut n x).sources = s.sources := rfl
@[simp] theorem setOut_releaseTimeout (s : State) (n : Fin 8) (x : OutputLine) : (s.setOut n x).releaseTimeout = s.releaseTimeout := rfl
@[simp] theorem setOut_slots (s : State) (n : Fin 8) (x : OutputLine) : (s.setOut n x).slots = s.slots := rfl
@[simp] theorem setOut_ageOrder (s : State) (n : Fin 8) (x : OutputLine) : (s.setOut n x).ageOrder = s.ageOrder := rfl
@[simp] theorem setOut_subs (s : State) (n : Fin 8) (x : OutputLine) : (s.setOut n x).subs = s.subs := rfl
@[simp] theorem setOut_groups (s : State) (n : Fin 8) (x : OutputLine) : (s.setOut n x).groups = s.groups := rfl
@[simp] theorem setOut_profiles (s : State) (n : Fin 8) (x : OutputLine) : (s.setOut n x).profiles = s.profiles := rfl
@[simp] theorem setOut_gens (s : State) (n : Fin 8) (x : OutputLine) : (s.setOut n x).gens = s.gens := rfl
@[simp] theorem setOut_outs (s : State) (n : Fin 8) (x : OutputLine) : (s.setOut n x).outs = upd s.outs n x := rfl
@[simp] theorem setOut_counters (s : State) (n : Fin 8) (x : OutputLine) : (s.setOut n x).counters = s.counters := rfl
@[simp] theorem setOut_tx (s : State) (n : Fin 8) (x : OutputLine) : (s.setOut n x).tx = s.tx := rfl
@[simp] theorem setOut_bus (s : State) (n : Fin 8) (x : OutputLine) : (s.setOut n x).bus = s.bus := rfl
@[simp] theorem setOut_beacon (s : State) (n : Fin 8) (x : OutputLine) : (s.setOut n x).beacon = s.beacon := rfl
@[simp] theorem setOut_roster (s : State) (n : Fin 8) (x : OutputLine) : (s.setOut n x).roster = s.roster := rfl
@[simp] theorem setOut_reply (s : State) (n : Fin 8) (x : OutputLine) : (s.setOut n x).reply = s.reply := rfl
@[simp] theorem setOut_maintenance (s : State) (n : Fin 8) (x : OutputLine) : (s.setOut n x).maintenance = s.maintenance := rfl
@[simp] theorem setOut_faults (s : State) (n : Fin 8) (x : OutputLine) : (s.setOut n x).faults = s.faults := rfl
@[simp] theorem setOut_tallies (s : State) (n : Fin 8) (x : OutputLine) : (s.setOut n x).tallies = s.tallies := rfl
@[simp] theorem setOut_loader (s : State) (n : Fin 8) (x : OutputLine) : (s.setOut n x).loader = s.loader := rfl
@[simp] theorem setOut_freeCount (s : State) (n : Fin 8) (x : OutputLine) : (s.setOut n x).freeCount = s.freeCount := rfl
@[simp] theorem setOut_pending (s : State) (n : Fin 8) (x : OutputLine) : (s.setOut n x).pending = s.pending := rfl

@[simp] theorem setCounter_time (s : State) (n : Fin 4) (x : Counter) : (s.setCounter n x).time = s.time := rfl
@[simp] theorem setCounter_pins (s : State) (n : Fin 4) (x : Counter) : (s.setCounter n x).pins = s.pins := rfl
@[simp] theorem setCounter_address (s : State) (n : Fin 4) (x : Counter) : (s.setCounter n x).address = s.address := rfl
@[simp] theorem setCounter_rate (s : State) (n : Fin 4) (x : Counter) : (s.setCounter n x).rate = s.rate := rfl
@[simp] theorem setCounter_inputs (s : State) (n : Fin 4) (x : Counter) : (s.setCounter n x).inputs = s.inputs := rfl
@[simp] theorem setCounter_sources (s : State) (n : Fin 4) (x : Counter) : (s.setCounter n x).sources = s.sources := rfl
@[simp] theorem setCounter_releaseTimeout (s : State) (n : Fin 4) (x : Counter) : (s.setCounter n x).releaseTimeout = s.releaseTimeout := rfl
@[simp] theorem setCounter_slots (s : State) (n : Fin 4) (x : Counter) : (s.setCounter n x).slots = s.slots := rfl
@[simp] theorem setCounter_ageOrder (s : State) (n : Fin 4) (x : Counter) : (s.setCounter n x).ageOrder = s.ageOrder := rfl
@[simp] theorem setCounter_subs (s : State) (n : Fin 4) (x : Counter) : (s.setCounter n x).subs = s.subs := rfl
@[simp] theorem setCounter_groups (s : State) (n : Fin 4) (x : Counter) : (s.setCounter n x).groups = s.groups := rfl
@[simp] theorem setCounter_profiles (s : State) (n : Fin 4) (x : Counter) : (s.setCounter n x).profiles = s.profiles := rfl
@[simp] theorem setCounter_gens (s : State) (n : Fin 4) (x : Counter) : (s.setCounter n x).gens = s.gens := rfl
@[simp] theorem setCounter_outs (s : State) (n : Fin 4) (x : Counter) : (s.setCounter n x).outs = s.outs := rfl
@[simp] theorem setCounter_counters (s : State) (n : Fin 4) (x : Counter) : (s.setCounter n x).counters = upd s.counters n x := rfl
@[simp] theorem setCounter_tx (s : State) (n : Fin 4) (x : Counter) : (s.setCounter n x).tx = s.tx := rfl
@[simp] theorem setCounter_bus (s : State) (n : Fin 4) (x : Counter) : (s.setCounter n x).bus = s.bus := rfl
@[simp] theorem setCounter_beacon (s : State) (n : Fin 4) (x : Counter) : (s.setCounter n x).beacon = s.beacon := rfl
@[simp] theorem setCounter_roster (s : State) (n : Fin 4) (x : Counter) : (s.setCounter n x).roster = s.roster := rfl
@[simp] theorem setCounter_reply (s : State) (n : Fin 4) (x : Counter) : (s.setCounter n x).reply = s.reply := rfl
@[simp] theorem setCounter_maintenance (s : State) (n : Fin 4) (x : Counter) : (s.setCounter n x).maintenance = s.maintenance := rfl
@[simp] theorem setCounter_faults (s : State) (n : Fin 4) (x : Counter) : (s.setCounter n x).faults = s.faults := rfl
@[simp] theorem setCounter_tallies (s : State) (n : Fin 4) (x : Counter) : (s.setCounter n x).tallies = s.tallies := rfl
@[simp] theorem setCounter_loader (s : State) (n : Fin 4) (x : Counter) : (s.setCounter n x).loader = s.loader := rfl
@[simp] theorem setCounter_freeCount (s : State) (n : Fin 4) (x : Counter) : (s.setCounter n x).freeCount = s.freeCount := rfl
@[simp] theorem setCounter_pending (s : State) (n : Fin 4) (x : Counter) : (s.setCounter n x).pending = s.pending := rfl

@[simp] theorem setTx_time (s : State) (x : List TxEntry) : (s.setTx x).time = s.time := rfl
@[simp] theorem setTx_pins (s : State) (x : List TxEntry) : (s.setTx x).pins = s.pins := rfl
@[simp] theorem setTx_address (s : State) (x : List TxEntry) : (s.setTx x).address = s.address := rfl
@[simp] theorem setTx_rate (s : State) (x : List TxEntry) : (s.setTx x).rate = s.rate := rfl
@[simp] theorem setTx_inputs (s : State) (x : List TxEntry) : (s.setTx x).inputs = s.inputs := rfl
@[simp] theorem setTx_sources (s : State) (x : List TxEntry) : (s.setTx x).sources = s.sources := rfl
@[simp] theorem setTx_releaseTimeout (s : State) (x : List TxEntry) : (s.setTx x).releaseTimeout = s.releaseTimeout := rfl
@[simp] theorem setTx_slots (s : State) (x : List TxEntry) : (s.setTx x).slots = s.slots := rfl
@[simp] theorem setTx_ageOrder (s : State) (x : List TxEntry) : (s.setTx x).ageOrder = s.ageOrder := rfl
@[simp] theorem setTx_subs (s : State) (x : List TxEntry) : (s.setTx x).subs = s.subs := rfl
@[simp] theorem setTx_groups (s : State) (x : List TxEntry) : (s.setTx x).groups = s.groups := rfl
@[simp] theorem setTx_profiles (s : State) (x : List TxEntry) : (s.setTx x).profiles = s.profiles := rfl
@[simp] theorem setTx_gens (s : State) (x : List TxEntry) : (s.setTx x).gens = s.gens := rfl
@[simp] theorem setTx_outs (s : State) (x : List TxEntry) : (s.setTx x).outs = s.outs := rfl
@[simp] theorem setTx_counters (s : State) (x : List TxEntry) : (s.setTx x).counters = s.counters := rfl
@[simp] theorem setTx_tx (s : State) (x : List TxEntry) : (s.setTx x).tx = x := rfl
@[simp] theorem setTx_bus (s : State) (x : List TxEntry) : (s.setTx x).bus = s.bus := rfl
@[simp] theorem setTx_beacon (s : State) (x : List TxEntry) : (s.setTx x).beacon = s.beacon := rfl
@[simp] theorem setTx_roster (s : State) (x : List TxEntry) : (s.setTx x).roster = s.roster := rfl
@[simp] theorem setTx_reply (s : State) (x : List TxEntry) : (s.setTx x).reply = s.reply := rfl
@[simp] theorem setTx_maintenance (s : State) (x : List TxEntry) : (s.setTx x).maintenance = s.maintenance := rfl
@[simp] theorem setTx_faults (s : State) (x : List TxEntry) : (s.setTx x).faults = s.faults := rfl
@[simp] theorem setTx_tallies (s : State) (x : List TxEntry) : (s.setTx x).tallies = s.tallies := rfl
@[simp] theorem setTx_loader (s : State) (x : List TxEntry) : (s.setTx x).loader = s.loader := rfl
@[simp] theorem setTx_freeCount (s : State) (x : List TxEntry) : (s.setTx x).freeCount = s.freeCount := rfl
@[simp] theorem setTx_pending (s : State) (x : List TxEntry) : (s.setTx x).pending = s.pending := rfl

@[simp] theorem setBus_time (s : State) (x : BusInterface) : (s.setBus x).time = s.time := rfl
@[simp] theorem setBus_pins (s : State) (x : BusInterface) : (s.setBus x).pins = s.pins := rfl
@[simp] theorem setBus_address (s : State) (x : BusInterface) : (s.setBus x).address = s.address := rfl
@[simp] theorem setBus_rate (s : State) (x : BusInterface) : (s.setBus x).rate = s.rate := rfl
@[simp] theorem setBus_inputs (s : State) (x : BusInterface) : (s.setBus x).inputs = s.inputs := rfl
@[simp] theorem setBus_sources (s : State) (x : BusInterface) : (s.setBus x).sources = s.sources := rfl
@[simp] theorem setBus_releaseTimeout (s : State) (x : BusInterface) : (s.setBus x).releaseTimeout = s.releaseTimeout := rfl
@[simp] theorem setBus_slots (s : State) (x : BusInterface) : (s.setBus x).slots = s.slots := rfl
@[simp] theorem setBus_ageOrder (s : State) (x : BusInterface) : (s.setBus x).ageOrder = s.ageOrder := rfl
@[simp] theorem setBus_subs (s : State) (x : BusInterface) : (s.setBus x).subs = s.subs := rfl
@[simp] theorem setBus_groups (s : State) (x : BusInterface) : (s.setBus x).groups = s.groups := rfl
@[simp] theorem setBus_profiles (s : State) (x : BusInterface) : (s.setBus x).profiles = s.profiles := rfl
@[simp] theorem setBus_gens (s : State) (x : BusInterface) : (s.setBus x).gens = s.gens := rfl
@[simp] theorem setBus_outs (s : State) (x : BusInterface) : (s.setBus x).outs = s.outs := rfl
@[simp] theorem setBus_counters (s : State) (x : BusInterface) : (s.setBus x).counters = s.counters := rfl
@[simp] theorem setBus_tx (s : State) (x : BusInterface) : (s.setBus x).tx = s.tx := rfl
@[simp] theorem setBus_bus (s : State) (x : BusInterface) : (s.setBus x).bus = x := rfl
@[simp] theorem setBus_beacon (s : State) (x : BusInterface) : (s.setBus x).beacon = s.beacon := rfl
@[simp] theorem setBus_roster (s : State) (x : BusInterface) : (s.setBus x).roster = s.roster := rfl
@[simp] theorem setBus_reply (s : State) (x : BusInterface) : (s.setBus x).reply = s.reply := rfl
@[simp] theorem setBus_maintenance (s : State) (x : BusInterface) : (s.setBus x).maintenance = s.maintenance := rfl
@[simp] theorem setBus_faults (s : State) (x : BusInterface) : (s.setBus x).faults = s.faults := rfl
@[simp] theorem setBus_tallies (s : State) (x : BusInterface) : (s.setBus x).tallies = s.tallies := rfl
@[simp] theorem setBus_loader (s : State) (x : BusInterface) : (s.setBus x).loader = s.loader := rfl
@[simp] theorem setBus_freeCount (s : State) (x : BusInterface) : (s.setBus x).freeCount = s.freeCount := rfl
@[simp] theorem setBus_pending (s : State) (x : BusInterface) : (s.setBus x).pending = s.pending := rfl

@[simp] theorem setBeacon_time (s : State) (x : Beacon) : (s.setBeacon x).time = s.time := rfl
@[simp] theorem setBeacon_pins (s : State) (x : Beacon) : (s.setBeacon x).pins = s.pins := rfl
@[simp] theorem setBeacon_address (s : State) (x : Beacon) : (s.setBeacon x).address = s.address := rfl
@[simp] theorem setBeacon_rate (s : State) (x : Beacon) : (s.setBeacon x).rate = s.rate := rfl
@[simp] theorem setBeacon_inputs (s : State) (x : Beacon) : (s.setBeacon x).inputs = s.inputs := rfl
@[simp] theorem setBeacon_sources (s : State) (x : Beacon) : (s.setBeacon x).sources = s.sources := rfl
@[simp] theorem setBeacon_releaseTimeout (s : State) (x : Beacon) : (s.setBeacon x).releaseTimeout = s.releaseTimeout := rfl
@[simp] theorem setBeacon_slots (s : State) (x : Beacon) : (s.setBeacon x).slots = s.slots := rfl
@[simp] theorem setBeacon_ageOrder (s : State) (x : Beacon) : (s.setBeacon x).ageOrder = s.ageOrder := rfl
@[simp] theorem setBeacon_subs (s : State) (x : Beacon) : (s.setBeacon x).subs = s.subs := rfl
@[simp] theorem setBeacon_groups (s : State) (x : Beacon) : (s.setBeacon x).groups = s.groups := rfl
@[simp] theorem setBeacon_profiles (s : State) (x : Beacon) : (s.setBeacon x).profiles = s.profiles := rfl
@[simp] theorem setBeacon_gens (s : State) (x : Beacon) : (s.setBeacon x).gens = s.gens := rfl
@[simp] theorem setBeacon_outs (s : State) (x : Beacon) : (s.setBeacon x).outs = s.outs := rfl
@[simp] theorem setBeacon_counters (s : State) (x : Beacon) : (s.setBeacon x).counters = s.counters := rfl
@[simp] theorem setBeacon_tx (s : State) (x : Beacon) : (s.setBeacon x).tx = s.tx := rfl
@[simp] theorem setBeacon_bus (s : State) (x : Beacon) : (s.setBeacon x).bus = s.bus := rfl
@[simp] theorem setBeacon_beacon (s : State) (x : Beacon) : (s.setBeacon x).beacon = x := rfl
@[simp] theorem setBeacon_roster (s : State) (x : Beacon) : (s.setBeacon x).roster = s.roster := rfl
@[simp] theorem setBeacon_reply (s : State) (x : Beacon) : (s.setBeacon x).reply = s.reply := rfl
@[simp] theorem setBeacon_maintenance (s : State) (x : Beacon) : (s.setBeacon x).maintenance = s.maintenance := rfl
@[simp] theorem setBeacon_faults (s : State) (x : Beacon) : (s.setBeacon x).faults = s.faults := rfl
@[simp] theorem setBeacon_tallies (s : State) (x : Beacon) : (s.setBeacon x).tallies = s.tallies := rfl
@[simp] theorem setBeacon_loader (s : State) (x : Beacon) : (s.setBeacon x).loader = s.loader := rfl
@[simp] theorem setBeacon_freeCount (s : State) (x : Beacon) : (s.setBeacon x).freeCount = s.freeCount := rfl
@[simp] theorem setBeacon_pending (s : State) (x : Beacon) : (s.setBeacon x).pending = s.pending := rfl

@[simp] theorem setRoster_time (s : State) (n : Fin 32) (x : RosterEntry) : (s.setRoster n x).time = s.time := rfl
@[simp] theorem setRoster_pins (s : State) (n : Fin 32) (x : RosterEntry) : (s.setRoster n x).pins = s.pins := rfl
@[simp] theorem setRoster_address (s : State) (n : Fin 32) (x : RosterEntry) : (s.setRoster n x).address = s.address := rfl
@[simp] theorem setRoster_rate (s : State) (n : Fin 32) (x : RosterEntry) : (s.setRoster n x).rate = s.rate := rfl
@[simp] theorem setRoster_inputs (s : State) (n : Fin 32) (x : RosterEntry) : (s.setRoster n x).inputs = s.inputs := rfl
@[simp] theorem setRoster_sources (s : State) (n : Fin 32) (x : RosterEntry) : (s.setRoster n x).sources = s.sources := rfl
@[simp] theorem setRoster_releaseTimeout (s : State) (n : Fin 32) (x : RosterEntry) : (s.setRoster n x).releaseTimeout = s.releaseTimeout := rfl
@[simp] theorem setRoster_slots (s : State) (n : Fin 32) (x : RosterEntry) : (s.setRoster n x).slots = s.slots := rfl
@[simp] theorem setRoster_ageOrder (s : State) (n : Fin 32) (x : RosterEntry) : (s.setRoster n x).ageOrder = s.ageOrder := rfl
@[simp] theorem setRoster_subs (s : State) (n : Fin 32) (x : RosterEntry) : (s.setRoster n x).subs = s.subs := rfl
@[simp] theorem setRoster_groups (s : State) (n : Fin 32) (x : RosterEntry) : (s.setRoster n x).groups = s.groups := rfl
@[simp] theorem setRoster_profiles (s : State) (n : Fin 32) (x : RosterEntry) : (s.setRoster n x).profiles = s.profiles := rfl
@[simp] theorem setRoster_gens (s : State) (n : Fin 32) (x : RosterEntry) : (s.setRoster n x).gens = s.gens := rfl
@[simp] theorem setRoster_outs (s : State) (n : Fin 32) (x : RosterEntry) : (s.setRoster n x).outs = s.outs := rfl
@[simp] theorem setRoster_counters (s : State) (n : Fin 32) (x : RosterEntry) : (s.setRoster n x).counters = s.counters := rfl
@[simp] theorem setRoster_tx (s : State) (n : Fin 32) (x : RosterEntry) : (s.setRoster n x).tx = s.tx := rfl
@[simp] theorem setRoster_bus (s : State) (n : Fin 32) (x : RosterEntry) : (s.setRoster n x).bus = s.bus := rfl
@[simp] theorem setRoster_beacon (s : State) (n : Fin 32) (x : RosterEntry) : (s.setRoster n x).beacon = s.beacon := rfl
@[simp] theorem setRoster_roster (s : State) (n : Fin 32) (x : RosterEntry) : (s.setRoster n x).roster = upd s.roster n x := rfl
@[simp] theorem setRoster_reply (s : State) (n : Fin 32) (x : RosterEntry) : (s.setRoster n x).reply = s.reply := rfl
@[simp] theorem setRoster_maintenance (s : State) (n : Fin 32) (x : RosterEntry) : (s.setRoster n x).maintenance = s.maintenance := rfl
@[simp] theorem setRoster_faults (s : State) (n : Fin 32) (x : RosterEntry) : (s.setRoster n x).faults = s.faults := rfl
@[simp] theorem setRoster_tallies (s : State) (n : Fin 32) (x : RosterEntry) : (s.setRoster n x).tallies = s.tallies := rfl
@[simp] theorem setRoster_loader (s : State) (n : Fin 32) (x : RosterEntry) : (s.setRoster n x).loader = s.loader := rfl
@[simp] theorem setRoster_freeCount (s : State) (n : Fin 32) (x : RosterEntry) : (s.setRoster n x).freeCount = s.freeCount := rfl
@[simp] theorem setRoster_pending (s : State) (n : Fin 32) (x : RosterEntry) : (s.setRoster n x).pending = s.pending := rfl

@[simp] theorem setReply_time (s : State) (x : Option Reply) : (s.setReply x).time = s.time := rfl
@[simp] theorem setReply_pins (s : State) (x : Option Reply) : (s.setReply x).pins = s.pins := rfl
@[simp] theorem setReply_address (s : State) (x : Option Reply) : (s.setReply x).address = s.address := rfl
@[simp] theorem setReply_rate (s : State) (x : Option Reply) : (s.setReply x).rate = s.rate := rfl
@[simp] theorem setReply_inputs (s : State) (x : Option Reply) : (s.setReply x).inputs = s.inputs := rfl
@[simp] theorem setReply_sources (s : State) (x : Option Reply) : (s.setReply x).sources = s.sources := rfl
@[simp] theorem setReply_releaseTimeout (s : State) (x : Option Reply) : (s.setReply x).releaseTimeout = s.releaseTimeout := rfl
@[simp] theorem setReply_slots (s : State) (x : Option Reply) : (s.setReply x).slots = s.slots := rfl
@[simp] theorem setReply_ageOrder (s : State) (x : Option Reply) : (s.setReply x).ageOrder = s.ageOrder := rfl
@[simp] theorem setReply_subs (s : State) (x : Option Reply) : (s.setReply x).subs = s.subs := rfl
@[simp] theorem setReply_groups (s : State) (x : Option Reply) : (s.setReply x).groups = s.groups := rfl
@[simp] theorem setReply_profiles (s : State) (x : Option Reply) : (s.setReply x).profiles = s.profiles := rfl
@[simp] theorem setReply_gens (s : State) (x : Option Reply) : (s.setReply x).gens = s.gens := rfl
@[simp] theorem setReply_outs (s : State) (x : Option Reply) : (s.setReply x).outs = s.outs := rfl
@[simp] theorem setReply_counters (s : State) (x : Option Reply) : (s.setReply x).counters = s.counters := rfl
@[simp] theorem setReply_tx (s : State) (x : Option Reply) : (s.setReply x).tx = s.tx := rfl
@[simp] theorem setReply_bus (s : State) (x : Option Reply) : (s.setReply x).bus = s.bus := rfl
@[simp] theorem setReply_beacon (s : State) (x : Option Reply) : (s.setReply x).beacon = s.beacon := rfl
@[simp] theorem setReply_roster (s : State) (x : Option Reply) : (s.setReply x).roster = s.roster := rfl
@[simp] theorem setReply_reply (s : State) (x : Option Reply) : (s.setReply x).reply = x := rfl
@[simp] theorem setReply_maintenance (s : State) (x : Option Reply) : (s.setReply x).maintenance = s.maintenance := rfl
@[simp] theorem setReply_faults (s : State) (x : Option Reply) : (s.setReply x).faults = s.faults := rfl
@[simp] theorem setReply_tallies (s : State) (x : Option Reply) : (s.setReply x).tallies = s.tallies := rfl
@[simp] theorem setReply_loader (s : State) (x : Option Reply) : (s.setReply x).loader = s.loader := rfl
@[simp] theorem setReply_freeCount (s : State) (x : Option Reply) : (s.setReply x).freeCount = s.freeCount := rfl
@[simp] theorem setReply_pending (s : State) (x : Option Reply) : (s.setReply x).pending = s.pending := rfl

@[simp] theorem setFaults_time (s : State) (x : FaultSet) : (s.setFaults x).time = s.time := rfl
@[simp] theorem setFaults_pins (s : State) (x : FaultSet) : (s.setFaults x).pins = s.pins := rfl
@[simp] theorem setFaults_address (s : State) (x : FaultSet) : (s.setFaults x).address = s.address := rfl
@[simp] theorem setFaults_rate (s : State) (x : FaultSet) : (s.setFaults x).rate = s.rate := rfl
@[simp] theorem setFaults_inputs (s : State) (x : FaultSet) : (s.setFaults x).inputs = s.inputs := rfl
@[simp] theorem setFaults_sources (s : State) (x : FaultSet) : (s.setFaults x).sources = s.sources := rfl
@[simp] theorem setFaults_releaseTimeout (s : State) (x : FaultSet) : (s.setFaults x).releaseTimeout = s.releaseTimeout := rfl
@[simp] theorem setFaults_slots (s : State) (x : FaultSet) : (s.setFaults x).slots = s.slots := rfl
@[simp] theorem setFaults_ageOrder (s : State) (x : FaultSet) : (s.setFaults x).ageOrder = s.ageOrder := rfl
@[simp] theorem setFaults_subs (s : State) (x : FaultSet) : (s.setFaults x).subs = s.subs := rfl
@[simp] theorem setFaults_groups (s : State) (x : FaultSet) : (s.setFaults x).groups = s.groups := rfl
@[simp] theorem setFaults_profiles (s : State) (x : FaultSet) : (s.setFaults x).profiles = s.profiles := rfl
@[simp] theorem setFaults_gens (s : State) (x : FaultSet) : (s.setFaults x).gens = s.gens := rfl
@[simp] theorem setFaults_outs (s : State) (x : FaultSet) : (s.setFaults x).outs = s.outs := rfl
@[simp] theorem setFaults_counters (s : State) (x : FaultSet) : (s.setFaults x).counters = s.counters := rfl
@[simp] theorem setFaults_tx (s : State) (x : FaultSet) : (s.setFaults x).tx = s.tx := rfl
@[simp] theorem setFaults_bus (s : State) (x : FaultSet) : (s.setFaults x).bus = s.bus := rfl
@[simp] theorem setFaults_beacon (s : State) (x : FaultSet) : (s.setFaults x).beacon = s.beacon := rfl
@[simp] theorem setFaults_roster (s : State) (x : FaultSet) : (s.setFaults x).roster = s.roster := rfl
@[simp] theorem setFaults_reply (s : State) (x : FaultSet) : (s.setFaults x).reply = s.reply := rfl
@[simp] theorem setFaults_maintenance (s : State) (x : FaultSet) : (s.setFaults x).maintenance = s.maintenance := rfl
@[simp] theorem setFaults_faults (s : State) (x : FaultSet) : (s.setFaults x).faults = x := rfl
@[simp] theorem setFaults_tallies (s : State) (x : FaultSet) : (s.setFaults x).tallies = s.tallies := rfl
@[simp] theorem setFaults_loader (s : State) (x : FaultSet) : (s.setFaults x).loader = s.loader := rfl
@[simp] theorem setFaults_freeCount (s : State) (x : FaultSet) : (s.setFaults x).freeCount = s.freeCount := rfl
@[simp] theorem setFaults_pending (s : State) (x : FaultSet) : (s.setFaults x).pending = s.pending := rfl

@[simp] theorem setTally_time (s : State) (n : Fin 10) (x : Byte) : (s.setTally n x).time = s.time := rfl
@[simp] theorem setTally_pins (s : State) (n : Fin 10) (x : Byte) : (s.setTally n x).pins = s.pins := rfl
@[simp] theorem setTally_address (s : State) (n : Fin 10) (x : Byte) : (s.setTally n x).address = s.address := rfl
@[simp] theorem setTally_rate (s : State) (n : Fin 10) (x : Byte) : (s.setTally n x).rate = s.rate := rfl
@[simp] theorem setTally_inputs (s : State) (n : Fin 10) (x : Byte) : (s.setTally n x).inputs = s.inputs := rfl
@[simp] theorem setTally_sources (s : State) (n : Fin 10) (x : Byte) : (s.setTally n x).sources = s.sources := rfl
@[simp] theorem setTally_releaseTimeout (s : State) (n : Fin 10) (x : Byte) : (s.setTally n x).releaseTimeout = s.releaseTimeout := rfl
@[simp] theorem setTally_slots (s : State) (n : Fin 10) (x : Byte) : (s.setTally n x).slots = s.slots := rfl
@[simp] theorem setTally_ageOrder (s : State) (n : Fin 10) (x : Byte) : (s.setTally n x).ageOrder = s.ageOrder := rfl
@[simp] theorem setTally_subs (s : State) (n : Fin 10) (x : Byte) : (s.setTally n x).subs = s.subs := rfl
@[simp] theorem setTally_groups (s : State) (n : Fin 10) (x : Byte) : (s.setTally n x).groups = s.groups := rfl
@[simp] theorem setTally_profiles (s : State) (n : Fin 10) (x : Byte) : (s.setTally n x).profiles = s.profiles := rfl
@[simp] theorem setTally_gens (s : State) (n : Fin 10) (x : Byte) : (s.setTally n x).gens = s.gens := rfl
@[simp] theorem setTally_outs (s : State) (n : Fin 10) (x : Byte) : (s.setTally n x).outs = s.outs := rfl
@[simp] theorem setTally_counters (s : State) (n : Fin 10) (x : Byte) : (s.setTally n x).counters = s.counters := rfl
@[simp] theorem setTally_tx (s : State) (n : Fin 10) (x : Byte) : (s.setTally n x).tx = s.tx := rfl
@[simp] theorem setTally_bus (s : State) (n : Fin 10) (x : Byte) : (s.setTally n x).bus = s.bus := rfl
@[simp] theorem setTally_beacon (s : State) (n : Fin 10) (x : Byte) : (s.setTally n x).beacon = s.beacon := rfl
@[simp] theorem setTally_roster (s : State) (n : Fin 10) (x : Byte) : (s.setTally n x).roster = s.roster := rfl
@[simp] theorem setTally_reply (s : State) (n : Fin 10) (x : Byte) : (s.setTally n x).reply = s.reply := rfl
@[simp] theorem setTally_maintenance (s : State) (n : Fin 10) (x : Byte) : (s.setTally n x).maintenance = s.maintenance := rfl
@[simp] theorem setTally_faults (s : State) (n : Fin 10) (x : Byte) : (s.setTally n x).faults = s.faults := rfl
@[simp] theorem setTally_tallies (s : State) (n : Fin 10) (x : Byte) : (s.setTally n x).tallies = upd s.tallies n x := rfl
@[simp] theorem setTally_loader (s : State) (n : Fin 10) (x : Byte) : (s.setTally n x).loader = s.loader := rfl
@[simp] theorem setTally_freeCount (s : State) (n : Fin 10) (x : Byte) : (s.setTally n x).freeCount = s.freeCount := rfl
@[simp] theorem setTally_pending (s : State) (n : Fin 10) (x : Byte) : (s.setTally n x).pending = s.pending := rfl

@[simp] theorem setLoader_time (s : State) (x : Loader) : (s.setLoader x).time = s.time := rfl
@[simp] theorem setLoader_pins (s : State) (x : Loader) : (s.setLoader x).pins = s.pins := rfl
@[simp] theorem setLoader_address (s : State) (x : Loader) : (s.setLoader x).address = s.address := rfl
@[simp] theorem setLoader_rate (s : State) (x : Loader) : (s.setLoader x).rate = s.rate := rfl
@[simp] theorem setLoader_inputs (s : State) (x : Loader) : (s.setLoader x).inputs = s.inputs := rfl
@[simp] theorem setLoader_sources (s : State) (x : Loader) : (s.setLoader x).sources = s.sources := rfl
@[simp] theorem setLoader_releaseTimeout (s : State) (x : Loader) : (s.setLoader x).releaseTimeout = s.releaseTimeout := rfl
@[simp] theorem setLoader_slots (s : State) (x : Loader) : (s.setLoader x).slots = s.slots := rfl
@[simp] theorem setLoader_ageOrder (s : State) (x : Loader) : (s.setLoader x).ageOrder = s.ageOrder := rfl
@[simp] theorem setLoader_subs (s : State) (x : Loader) : (s.setLoader x).subs = s.subs := rfl
@[simp] theorem setLoader_groups (s : State) (x : Loader) : (s.setLoader x).groups = s.groups := rfl
@[simp] theorem setLoader_profiles (s : State) (x : Loader) : (s.setLoader x).profiles = s.profiles := rfl
@[simp] theorem setLoader_gens (s : State) (x : Loader) : (s.setLoader x).gens = s.gens := rfl
@[simp] theorem setLoader_outs (s : State) (x : Loader) : (s.setLoader x).outs = s.outs := rfl
@[simp] theorem setLoader_counters (s : State) (x : Loader) : (s.setLoader x).counters = s.counters := rfl
@[simp] theorem setLoader_tx (s : State) (x : Loader) : (s.setLoader x).tx = s.tx := rfl
@[simp] theorem setLoader_bus (s : State) (x : Loader) : (s.setLoader x).bus = s.bus := rfl
@[simp] theorem setLoader_beacon (s : State) (x : Loader) : (s.setLoader x).beacon = s.beacon := rfl
@[simp] theorem setLoader_roster (s : State) (x : Loader) : (s.setLoader x).roster = s.roster := rfl
@[simp] theorem setLoader_reply (s : State) (x : Loader) : (s.setLoader x).reply = s.reply := rfl
@[simp] theorem setLoader_maintenance (s : State) (x : Loader) : (s.setLoader x).maintenance = s.maintenance := rfl
@[simp] theorem setLoader_faults (s : State) (x : Loader) : (s.setLoader x).faults = s.faults := rfl
@[simp] theorem setLoader_tallies (s : State) (x : Loader) : (s.setLoader x).tallies = s.tallies := rfl
@[simp] theorem setLoader_loader (s : State) (x : Loader) : (s.setLoader x).loader = x := rfl
@[simp] theorem setLoader_freeCount (s : State) (x : Loader) : (s.setLoader x).freeCount = s.freeCount := rfl
@[simp] theorem setLoader_pending (s : State) (x : Loader) : (s.setLoader x).pending = s.pending := rfl

/-! ## Reading one entry after an update -/

theorem input_setInput (s : State) (n m : Fin 16) (x : InputLine) :
    (s.setInput n x).input m = if n = m then x else s.input m := look_upd _ _ _ _

@[simp] theorem input_setInput_self (s : State) (n : Fin 16) (x : InputLine) : (s.setInput n x).input n = x := look_upd_self _ _ _

theorem source_setSource (s : State) (n m : Fin 16) (x : SourceEntry) :
    (s.setSource n x).source m = if n = m then x else s.source m := look_upd _ _ _ _

@[simp] theorem source_setSource_self (s : State) (n : Fin 16) (x : SourceEntry) : (s.setSource n x).source n = x := look_upd_self _ _ _

theorem slot_setSlot (s : State) (n m : Fin 8) (x : Option AcceptRecord) :
    (s.setSlot n x).slot m = if n = m then x else s.slot m := look_upd _ _ _ _

@[simp] theorem slot_setSlot_self (s : State) (n : Fin 8) (x : Option AcceptRecord) : (s.setSlot n x).slot n = x := look_upd_self _ _ _

theorem gen_setGen (s : State) (n m : Fin 8) (x : Generator) :
    (s.setGen n x).gen m = if n = m then x else s.gen m := look_upd _ _ _ _

@[simp] theorem gen_setGen_self (s : State) (n : Fin 8) (x : Generator) : (s.setGen n x).gen n = x := look_upd_self _ _ _

theorem out_setOut (s : State) (n m : Fin 8) (x : OutputLine) :
    (s.setOut n x).out m = if n = m then x else s.out m := look_upd _ _ _ _

@[simp] theorem out_setOut_self (s : State) (n : Fin 8) (x : OutputLine) : (s.setOut n x).out n = x := look_upd_self _ _ _

theorem counter_setCounter (s : State) (n m : Fin 4) (x : Counter) :
    (s.setCounter n x).counter m = if n = m then x else s.counter m := look_upd _ _ _ _

@[simp] theorem counter_setCounter_self (s : State) (n : Fin 4) (x : Counter) : (s.setCounter n x).counter n = x := look_upd_self _ _ _

theorem rosterAt_setRoster (s : State) (a : Addr) (n : Fin 32) (x : RosterEntry) :
    (s.setRoster n x).rosterAt a = if n = addrIdx a then x else s.rosterAt a := look_upd _ _ _ _

@[simp] theorem rosterAt_setRoster_self (s : State) (a : Addr) (x : RosterEntry) :
    (s.setRoster (addrIdx a) x).rosterAt a = x := look_upd_self _ _ _

end Sys2Proof.Machine.State
end

