-- ==== Sys2Proof/Laws/Touch.lean ====
section
/-! SUPPORT. What each shared operation can change: two states are related when the second is the first with nothing
but the named fields replaced. A proof cites these instead of unfolding an operation. -/

namespace Sys2Proof.Machine

/-- Only the source table, the transmit list, the fault set and the tallies differ. -/
def SourceSide (s t : State) : Prop :=
  ∃ src l f n, t = { s with sources := src, tx := l, faults := f, tallies := n }

/-- Only the source side, the generators, the lines and the records of the acceptance table differ. -/
def GenSide (s t : State) : Prop :=
  ∃ src l f n g o r, t = { s with sources := src, tx := l, faults := f, tallies := n, gens := g, outs := o, slots := r }

/-- Only what actions, clear actions, acceptance records and purges work on differs. -/
def ActionSide (s t : State) : Prop :=
  ∃ src l f n g o r c e a,
    t = { s with sources := src, tx := l, faults := f, tallies := n, gens := g, outs := o, slots := r,
                 counters := c, groups := e, ageOrder := a }

/-- Only what admission and the start of a contention work on differs. -/
def SettleSide (s t : State) : Prop :=
  ∃ src l r rp bc act ph st,
    t = { s with sources := src, tx := l, slots := r, reply := rp, beacon := bc,
                 bus := { s.bus with activity := act, phase := ph, stopped := st } }

/-! ## Order of the relations -/

theorem SourceSide.refl (s : State) : SourceSide s s := ⟨_, _, _, _, rfl⟩
theorem GenSide.refl (s : State) : GenSide s s := ⟨_, _, _, _, _, _, _, rfl⟩
theorem ActionSide.refl (s : State) : ActionSide s s := ⟨_, _, _, _, _, _, _, _, _, _, rfl⟩
theorem SettleSide.refl (s : State) : SettleSide s s := ⟨_, _, _, _, _, _, _, _, rfl⟩

theorem SourceSide.trans {s t u : State} (h : SourceSide s t) (k : SourceSide t u) : SourceSide s u := by
  obtain ⟨_, _, _, _, rfl⟩ := h
  obtain ⟨_, _, _, _, rfl⟩ := k
  exact ⟨_, _, _, _, rfl⟩

theorem GenSide.trans {s t u : State} (h : GenSide s t) (k : GenSide t u) : GenSide s u := by
  obtain ⟨_, _, _, _, _, _, _, rfl⟩ := h
  obtain ⟨_, _, _, _, _, _, _, rfl⟩ := k
  exact ⟨_, _, _, _, _, _, _, rfl⟩

theorem ActionSide.trans {s t u : State} (h : ActionSide s t) (k : ActionSide t u) : ActionSide s u := by
  obtain ⟨_, _, _, _, _, _, _, _, _, _, rfl⟩ := h
  obtain ⟨_, _, _, _, _, _, _, _, _, _, rfl⟩ := k
  exact ⟨_, _, _, _, _, _, _, _, _, _, rfl⟩

theorem SettleSide.trans {s t u : State} (h : SettleSide s t) (k : SettleSide t u) : SettleSide s u := by
  obtain ⟨_, _, _, _, _, _, _, _, rfl⟩ := h
  obtain ⟨_, _, _, _, _, _, _, _, rfl⟩ := k
  exact ⟨_, _, _, _, _, _, _, _, rfl⟩

theorem SourceSide.gen {s t : State} (h : SourceSide s t) : GenSide s t := by
  obtain ⟨_, _, _, _, rfl⟩ := h
  exact ⟨_, _, _, _, _, _, _, rfl⟩

theorem GenSide.action {s t : State} (h : GenSide s t) : ActionSide s t := by
  obtain ⟨_, _, _, _, _, _, _, rfl⟩ := h
  exact ⟨_, _, _, _, _, _, _, _, _, _, rfl⟩

/-! ## Folds -/

/-- A fold of operations that each keep a reflexive, transitive relation keeps it. -/
theorem foldl_rel {α : Type} {R : State → State → Prop} (refl : ∀ s, R s s)
    (trans : ∀ {s t u}, R s t → R t u → R s u) (f : State → α → State) (h : ∀ s a, R s (f s a)) (l : List α) (s : State) :
    R s (l.foldl f s) := by
  induction l generalizing s with
  | nil => exact refl s
  | cons a l ih => exact trans (h s a) (ih (f s a))

/-- The same for an operation run for every index of a table. -/
theorem forEach_rel {n : Nat} {R : State → State → Prop} (refl : ∀ s, R s s)
    (trans : ∀ {s t u}, R s t → R t u → R s u) (f : Fin n → State → State) (h : ∀ i s, R s (f i s)) (s : State) :
    R s (forEach f s) :=
  foldl_rel refl trans (fun t i => f i t) (fun t i => h i t) _ s

/-! ## The status unit and the source table -/

theorem count_side (s : State) (t : TallyName) : SourceSide s (s.count t) := ⟨_, _, _, _, rfl⟩
theorem latch_side (s : State) (k : FaultKind) : SourceSide s (s.latch k) := ⟨_, _, _, _, rfl⟩
theorem unlatch_side (s : State) (k : FaultKind) : SourceSide s (s.unlatch k) := ⟨_, _, _, _, rfl⟩
theorem noteUndelivered_side (s : State) : SourceSide s s.noteUndelivered := ⟨_, _, _, _, rfl⟩
theorem noteLostEdge_side (s : State) : SourceSide s s.noteLostEdge := ⟨_, _, _, _, rfl⟩
theorem setSource_side (s : State) (i : Fin 16) (e : SourceEntry) : SourceSide s (s.setSource i e) := ⟨_, _, _, _, rfl⟩
theorem setTx_side (s : State) (l : List TxEntry) : SourceSide s (s.setTx l) := ⟨_, _, _, _, rfl⟩
theorem giveUpEntry_side (s : State) (p : Producer) : SourceSide s (s.giveUpEntry p) := ⟨_, _, _, _, rfl⟩
theorem withdrawEntry_side (s : State) (p : Producer) : SourceSide s (s.withdrawEntry p) := ⟨_, _, _, _, rfl⟩
theorem refreshOrphaned_side (s : State) : SourceSide s s.refreshOrphaned := ⟨_, _, _, _, rfl⟩
theorem startInst_side (s : State) (i : Fin 16) (b : Bool) : SourceSide s (s.startInst i b) := ⟨_, _, _, _, rfl⟩

theorem takeEdge_side (s : State) (i : Fin 16) (d : Direction) : SourceSide s (s.takeEdge i d) := by
  unfold State.takeEdge
  dsimp only
  split <;> exact ⟨_, _, _, _, rfl⟩

theorem presentEdge_side (s : State) (o : Origin) (d : Direction) : SourceSide s (s.presentEdge o d) := by
  apply forEach_rel SourceSide.refl SourceSide.trans
  intro i t
  split
  · exact takeEdge_side _ _ _
  · exact SourceSide.refl _

theorem quorumReached_side (s : State) (i : Fin 16) : SourceSide s (s.quorumReached i) := by
  unfold State.quorumReached
  dsimp only
  split
  · exact ⟨_, _, _, _, rfl⟩
  · split
    · split <;> exact ⟨_, _, _, _, rfl⟩
    · exact ⟨_, _, _, _, rfl⟩

theorem testQuorum_side (s : State) (i : Fin 16) : SourceSide s (s.testQuorum i) := by
  unfold State.testQuorum
  split
  · exact quorumReached_side _ _
  · exact SourceSide.refl _

theorem dropOffBus_side (s : State) (i : Fin 16) : SourceSide s (s.dropOffBus i) := by
  unfold State.dropOffBus
  dsimp only
  split
  · exact ⟨_, _, _, _, rfl⟩
  · split <;> exact ⟨_, _, _, _, rfl⟩

theorem conditionAsserts_side (s : State) (i : Fin 16) : SourceSide s (s.conditionAsserts i) := by
  unfold State.conditionAsserts
  dsimp only
  split <;> exact ⟨_, _, _, _, rfl⟩

theorem conditionDrops_side (s : State) (i : Fin 16) : SourceSide s (s.conditionDrops i) := by
  unfold State.conditionDrops
  dsimp only
  split
  all_goals first
    | exact ⟨_, _, _, _, rfl⟩
    | (split
       · exact ⟨_, _, _, _, rfl⟩
       · exact (setSource_side _ _ _).trans (dropOffBus_side _ _))

theorem setCondition_side (s : State) (i : Fin 16) (c : Bool) : SourceSide s (s.setCondition i c) := by
  unfold State.setCondition
  split
  · exact SourceSide.refl _
  · split
    · exact conditionAsserts_side _ _
    · exact conditionDrops_side _ _

theorem presentLevel_side (s : State) (o : Origin) (b : Bool) : SourceSide s (s.presentLevel o b) := by
  apply forEach_rel SourceSide.refl SourceSide.trans
  intro i t
  split
  · exact setCondition_side _ _ _
  · exact SourceSide.refl _

theorem releaseExpired_side (s : State) (i : Fin 16) : SourceSide s (s.releaseExpired i) := by
  unfold State.releaseExpired
  dsimp only
  split <;> exact ⟨_, _, _, _, rfl⟩

theorem releaseAt_side (s : State) (i : Fin 16) (a : Addr) (k : InstNo) : SourceSide s (s.releaseAt i a k) := by
  unfold State.releaseAt
  dsimp only
  repeat' split
  all_goals first
    | with_reducible exact count_side _ _
    | with_reducible exact SourceSide.refl _
    | with_reducible exact setSource_side _ _ _
    | with_reducible exact (setSource_side _ _ _).trans (testQuorum_side _ _)

theorem takeRelease_side (s : State) (a : Addr) (ch : Channel) (owner : Addr) (k : InstNo) :
    SourceSide s (s.takeRelease a ch owner k) := by
  unfold State.takeRelease
  split
  · exact SourceSide.refl _
  · split
    · exact count_side _ _
    · exact releaseAt_side _ _ _ _

theorem waiveAt_side (s : State) (i : Fin 16) (a : Addr) : SourceSide s (s.waiveAt i a) := by
  unfold State.waiveAt
  dsimp only
  repeat' split
  all_goals first
    | with_reducible exact setSource_side _ _ _
    | with_reducible exact (setSource_side _ _ _).trans (testQuorum_side _ _)
    | with_reducible exact SourceSide.refl _

theorem waive_side (s : State) (a : Addr) : SourceSide s (s.waive a) :=
  forEach_rel SourceSide.refl SourceSide.trans _ (fun i t => waiveAt_side t i a) s

/-! ## Generators and lines -/

theorem setGen_side (s : State) (g : Fin 8) (e : Generator) : GenSide s (s.setGen g e) := ⟨_, _, _, _, _, _, _, rfl⟩
theorem setOut_side (s : State) (o : Fin 8) (l : OutputLine) : GenSide s (s.setOut o l) := ⟨_, _, _, _, _, _, _, rfl⟩
theorem idleReport_side (s : State) (g : Fin 8) : GenSide s (s.idleReport g) := ⟨_, _, _, _, _, _, _, rfl⟩
theorem setForced_side (s : State) (b : Bool) : GenSide s (s.setForced b) := ⟨_, _, _, _, _, _, _, rfl⟩
theorem presentBusy_side (s : State) (g : Fin 8) : GenSide s (s.presentBusy g) := (presentLevel_side _ _ _).gen
theorem activate_side (s : State) (g : Fin 8) (p : Fin 16) : GenSide s (s.activate g p) := setGen_side _ _ _

theorem applyPending_side (s : State) (g : Fin 8) : GenSide s (s.applyPending g) := by
  unfold State.applyPending
  split
  · exact GenSide.refl _
  · exact activate_side _ _ _

theorem claim_side (s : State) (o g : Fin 8) : GenSide s (s.claim o g).1 := by
  unfold State.claim
  split
  · exact setOut_side _ _ _
  · exact ⟨_, _, _, _, _, _, _, rfl⟩

theorem releaseLine_side (s : State) (o g : Fin 8) : GenSide s (s.releaseLine o g) := by
  unfold State.releaseLine
  split
  · exact setOut_side _ _ _
  · exact GenSide.refl _

theorem dropClaim_side (s : State) (g : Fin 8) : GenSide s (s.dropClaim g) := by
  unfold State.dropClaim
  split
  · exact GenSide.refl _
  · exact releaseLine_side _ _ _

theorem startPulse_side (s : State) (g : Fin 8) : GenSide s (s.startPulse g) := by
  unfold State.startPulse
  dsimp only
  split
  · exact setGen_side _ _ _
  · exact (claim_side _ _ _).trans (setGen_side _ _ _)

theorem startRun_side (s : State) (g : Fin 8) : GenSide s (s.startRun g) := by
  unfold State.startRun
  dsimp only
  split
  · exact ((applyPending_side _ _).trans (setGen_side _ _ _)).trans (startPulse_side _ _)
  · exact (applyPending_side _ _).trans (setGen_side _ _ _)

theorem endRun_side (s : State) (g : Fin 8) : GenSide s (s.endRun g) :=
  ((dropClaim_side _ _).trans (setGen_side _ _ _)).trans (idleReport_side _ _)

theorem trigger_side (s : State) (g : Fin 8) : GenSide s (s.trigger g) := by
  unfold State.trigger
  dsimp only
  split
  · exact startRun_side _ _
  · split
    · exact (count_side _ _).gen
    · exact (endRun_side _ _).trans (startRun_side _ _)
    · split
      · exact (count_side _ _).gen
      · exact setGen_side _ _ _

theorem triggers_side (s : State) (g : Fin 8) (n : Nat) : GenSide s (s.triggers g n) := by
  induction n generalizing s with
  | zero => exact GenSide.refl _
  | succ n ih =>
    rw [State.triggers]
    exact (trigger_side _ _).trans (ih _)

theorem fire_side (s : State) (g : Fin 8) (n : Nat) : GenSide s (s.fire g n) :=
  (triggers_side _ _ _).trans (presentBusy_side _ _)

theorem stopGen_side (s : State) (g : Fin 8) : GenSide s (s.stopGen g) := by
  unfold State.stopGen
  split
  · exact GenSide.refl _
  · exact (endRun_side _ _).trans (presentBusy_side _ _)

theorem stopAll_side (s : State) : GenSide s s.stopAll :=
  forEach_rel GenSide.refl GenSide.trans _ (fun g t => stopGen_side t g) s

theorem select_side (s : State) (g : Fin 8) (p : Fin 16) : GenSide s (s.select g p) := by
  unfold State.select
  split
  · exact activate_side _ _ _
  · exact setGen_side _ _ _

theorem startGap_side (s : State) (g : Fin 8) (r : Remaining) : GenSide s (s.startGap g r) := setGen_side _ _ _

theorem completeRun_side (s : State) (g : Fin 8) : GenSide s (s.completeRun g) := by
  unfold State.completeRun
  dsimp only
  have h : ∀ e, GenSide s (((s.setGen g e).presentEdge (.generator g) .rise).idleReport g) := fun e =>
    ((setGen_side _ _ _).trans (presentEdge_side _ _ _).gen).trans (idleReport_side _ _)
  split
  · exact (h _).trans (startRun_side _ _)
  · exact h _

theorem pulseEnds_side (s : State) (g : Fin 8) : GenSide s (s.pulseEnds g) := by
  unfold State.pulseEnds
  dsimp only
  refine GenSide.trans ?_ (presentBusy_side _ _)
  split
  · exact (dropClaim_side _ _).trans (startGap_side _ _ _)
  · split
    · exact (dropClaim_side _ _).trans (startGap_side _ _ _)
    · exact (dropClaim_side _ _).trans (completeRun_side _ _)

theorem gapEnds_side (s : State) (g : Fin 8) : GenSide s (s.gapEnds g) :=
  (applyPending_side _ _).trans (startPulse_side _ _)

/-! ## Counters, actions, acceptance table, purge -/

theorem terminalEvents_succ (s : State) (c : Fin 4) (n : Nat) :
    s.terminalEvents c (n + 1) = (s.presentEdge (.counter c) .rise).terminalEvents c n := by
  simp only [State.terminalEvents, Function.iterate_succ_apply]

theorem terminalEvents_side (s : State) (c : Fin 4) (n : Nat) : SourceSide s (s.terminalEvents c n) := by
  induction n generalizing s with
  | zero => exact SourceSide.refl _
  | succ n ih =>
    simp only [terminalEvents_succ]
    have h := presentEdge_side s (.counter c) .rise
    generalize s.presentEdge (.counter c) .rise = t at h ⊢
    exact h.trans (ih t)

theorem setCounter_side (s : State) (c : Fin 4) (x : Counter) : ActionSide s (s.setCounter c x) :=
  ⟨_, _, _, _, _, _, _, _, _, _, rfl⟩
theorem setGroup_side (s : State) (m : Fin 4) (b : Bool) : ActionSide s (s.setGroup m b) :=
  ⟨_, _, _, _, _, _, _, _, _, _, rfl⟩
theorem setSlot_side (s : State) (j : Fin 8) (r : Option AcceptRecord) : ActionSide s (s.setSlot j r) :=
  ⟨_, _, _, _, _, _, _, _, _, _, rfl⟩

theorem countBy_side (s : State) (c : Fin 4) (n : Nat) : ActionSide s (s.countBy c n) :=
  (setCounter_side _ _ _).trans ((terminalEvents_side _ _ _).trans (presentLevel_side _ _ _)).gen.action

theorem resetCounter_side (s : State) (c : Fin 4) : ActionSide s (s.resetCounter c) :=
  (setCounter_side _ _ _).trans (presentLevel_side _ _ _).gen.action

theorem setStatic_side (s : State) (o : Fin 8) (b : Bool) : GenSide s (s.setStatic o b) := setOut_side _ _ _

theorem toggleStatic_side (s : State) (o : Fin 8) (n : Nat) : GenSide s (s.toggleStatic o n) := by
  unfold State.toggleStatic
  split
  · exact setOut_side _ _ _
  · exact GenSide.refl _

theorem runAction_side (s : State) (a : Action) (p : Option (Fin 16)) (n : Nat) : ActionSide s (s.runAction a p n) := by
  unfold State.runAction
  repeat' split
  all_goals first
    | with_reducible exact ActionSide.refl _
    | with_reducible exact (fire_side _ _ _).action
    | with_reducible exact (stopGen_side _ _).action
    | with_reducible exact (select_side _ _ _).action
    | with_reducible exact (toggleStatic_side _ _ _).action
    | with_reducible exact countBy_side _ _ _
    | with_reducible exact resetCounter_side _ _
    | with_reducible exact setGroup_side _ _ _
    | with_reducible exact (setStatic_side _ _ _).action

theorem act_side (s : State) (k : Fin 32) (n : Nat) : ActionSide s (s.act k n) := runAction_side _ _ _ _
theorem clearAct_side (s : State) (k : Fin 32) : ActionSide s (s.clearAct k) := runAction_side _ _ _ _

theorem removeRecord_side (s : State) (j : Fin 8) : ActionSide s (s.removeRecord j) :=
  ⟨_, _, _, _, _, _, _, _, _, _, rfl⟩
theorem putRecord_side (s : State) (j : Fin 8) (a : Addr) (ch : Channel) (k : InstNo) (d : List Duty) :
    ActionSide s (s.putRecord j a ch k d) := ⟨_, _, _, _, _, _, _, _, _, _, rfl⟩
theorem testRecord_side (s : State) (j : Fin 8) : ActionSide s (s.testRecord j) := setSlot_side _ _ _

theorem takeHold_side (s : State) (a : Addr) (ch : Channel) (k : InstNo) (snap : List (Fin 32)) :
    ActionSide s (s.takeHold a ch k snap).1 := by
  unfold State.takeHold
  dsimp only
  repeat' split
  all_goals first
    | with_reducible exact ActionSide.refl _
    | with_reducible exact putRecord_side _ _ _ _ _ _
    | with_reducible exact setSlot_side _ _ _
    | with_reducible exact removeRecord_side _ _
    | exact ⟨_, _, _, _, _, _, _, _, _, _, rfl⟩

theorem dutyRan_side (s : State) (j : Fin 8) (k : Fin 32) : ActionSide s (s.dutyRan j k) := by
  unfold State.dutyRan
  split
  · exact ActionSide.refl _
  · exact setSlot_side _ _ _

theorem closeRecord_side (s : State) (a : Addr) (ch : Channel) (k : InstNo) : ActionSide s (s.closeRecord a ch k) := by
  unfold State.closeRecord
  repeat' split
  all_goals first
    | with_reducible exact ActionSide.refl _
    | with_reducible exact removeRecord_side _ _

theorem dispatchEdge_side (s : State) (a : Addr) (ch : Channel) (n : Nat) : ActionSide s (s.dispatchEdge a ch n) := by
  unfold State.dispatchEdge
  split
  · exact ActionSide.refl _
  · exact foldl_rel ActionSide.refl ActionSide.trans _ (fun t k => act_side t k n) _ _

theorem holdStep_side (re : Bool) (r : Option (Fin 8)) (s : State) (k : Fin 32) :
    ActionSide s (State.holdStep re r s k) := by
  unfold State.holdStep
  repeat' split
  all_goals first
    | with_reducible exact (act_side _ _ _).trans (dutyRan_side _ _ _)
    | with_reducible exact act_side _ _ _
    | with_reducible exact ActionSide.refl _

theorem dispatchHold_side (s : State) (a : Addr) (ch : Channel) (k : InstNo) (re : Bool) :
    ActionSide s (s.dispatchHold a ch k re) := by
  unfold State.dispatchHold
  dsimp only
  have h := takeHold_side s a ch k (s.snapshot .hold a ch)
  have hf := fun r => foldl_rel ActionSide.refl ActionSide.trans (State.holdStep re r)
    (fun t k => holdStep_side re r t k) (s.snapshot .hold a ch) (s.takeHold a ch k (s.snapshot .hold a ch)).1
  split
  · exact ActionSide.refl _
  · split
    · exact (h.trans (hf _)).trans (testRecord_side _ _)
    · exact h.trans (hf _)

theorem selfHold_side (s : State) (ch : Channel) (re : Bool) : ActionSide s (s.selfHold ch re) := by
  unfold State.selfHold
  split
  · exact ActionSide.refl _
  · split
    · exact ActionSide.refl _
    · exact foldl_rel ActionSide.refl ActionSide.trans _ (fun t k => act_side t k 1) _ _

theorem dispatchClear_side (s : State) (a : Addr) (ch : Channel) : ActionSide s (s.dispatchClear a ch) := by
  unfold State.dispatchClear
  split
  · exact ActionSide.refl _
  · exact foldl_rel ActionSide.refl ActionSide.trans _ (fun t k => clearAct_side t k) _ _

theorem takeClear_side (s : State) (a : Addr) (ch : Channel) (k : InstNo) : ActionSide s (s.takeClear a ch k) := by
  unfold State.takeClear
  split
  · exact ActionSide.refl _
  · exact (dispatchClear_side _ _ _).trans (closeRecord_side _ _ _ _)

theorem purgeActions_side (s : State) (d : List Duty) : ActionSide s (s.purgeActions d) := by
  unfold State.purgeActions
  split
  · exact ActionSide.refl _
  · exact foldl_rel ActionSide.refl ActionSide.trans _ (fun t (k : Duty) => clearAct_side t k.sub) _ _

theorem purgeSlot_side (s : State) (a : Addr) (j : Fin 8) : ActionSide s (s.purgeSlot a j) := by
  unfold State.purgeSlot
  split
  · exact ActionSide.refl _
  · split
    · exact (purgeActions_side _ _).trans (removeRecord_side _ _)
    · exact ActionSide.refl _

theorem purge_side (s : State) (a : Addr) : ActionSide s (s.purge a) :=
  forEach_rel ActionSide.refl ActionSide.trans _ (fun j t => purgeSlot_side t a j) s

/-! ## Admission and the start of a contention -/

theorem setRecordState_settle (s : State) (j : Fin 8) (st : RecordState) (b : Bool) :
    SettleSide s (s.setRecordState j st b) := ⟨_, _, _, _, _, _, _, _, rfl⟩

theorem tellAdmitted_settle (s : State) (e : TxEntry) : SettleSide s (s.tellAdmitted e) := by
  unfold State.tellAdmitted
  repeat' split
  all_goals exact ⟨_, _, _, _, _, _, _, _, rfl⟩

theorem admitOne_settle (s : State) (e : TxEntry) : SettleSide s (s.admitOne e) := by
  unfold State.admitOne
  split
  · exact SettleSide.trans (t := s.setTx (admitEntry e s.tx)) ⟨_, _, _, _, _, _, _, _, rfl⟩ (tellAdmitted_settle _ _)
  · exact SettleSide.refl _

theorem admit_settle (s : State) : SettleSide s s.admitOwed :=
  foldl_rel SettleSide.refl SettleSide.trans _ admitOne_settle _ _

theorem offerHead_settle (s : State) : SettleSide s s.offerHead := by
  unfold State.offerHead
  repeat' split
  all_goals exact ⟨_, _, _, _, _, _, _, _, rfl⟩

theorem settle_side (s : State) : SettleSide s s.settle := by
  unfold State.settle State.offerIfIdle
  split
  · exact (admit_settle _).trans (offerHead_settle _)
  · exact admit_settle _

end Sys2Proof.Machine
end

