-- ==== Sys2Proof/Laws/Transmit.lean ====
section
/-! SUPPORT. The transmit list and the address sets as lists: where an entry goes, what giving up removes, the return to
WAITING and the self-delivery in the words of Sys2Proof/Safety.lean. -/

namespace Sys2Proof.Machine

/-! ## Address sets -/

theorem mem_addrInsert {a b : Addr} {l : List Addr} : a ∈ addrInsert b l ↔ a = b ∨ a ∈ l := by
  induction l with
  | nil => simp [addrInsert]
  | cons c t ih =>
    simp only [addrInsert]
    split
    · simp
    · split
      · next h => subst h; simp
      · simp [ih, or_left_comm]

theorem addrInsert_length_le (a : Addr) (l : List Addr) : (addrInsert a l).length ≤ l.length + 1 := by
  induction l with
  | nil => simp [addrInsert]
  | cons c t ih =>
    simp only [addrInsert]
    split
    · simp
    · split <;> simp; exact ih

theorem nodup_addrInsert {a : Addr} {l : List Addr} (hl : l.Nodup) (ha : a ∉ l) : (addrInsert a l).Nodup := by
  induction l with
  | nil => simp [addrInsert]
  | cons c t ih =>
    have hc : c ∉ t ∧ t.Nodup := by simpa using hl
    have hac : a ≠ c ∧ a ∉ t := by simpa using ha
    simp only [addrInsert]
    split
    · exact List.nodup_cons.2 ⟨ha, hl⟩
    · rw [if_neg hac.1]
      refine List.nodup_cons.2 ⟨?_, ih hc.2 hac.2⟩
      simp [mem_addrInsert, hc.1, hac.1.symm]

theorem mem_addrSet {a : Addr} {l : List Addr} : a ∈ addrSet l ↔ a ∈ l := by
  induction l with
  | nil => simp [addrSet]
  | cons c t ih =>
    have h : addrSet (c :: t) = addrInsert c (addrSet t) := rfl
    simp [h, mem_addrInsert, ih]

/-! ## Places in the list -/

/-- A place behind the urgent entries at the front, as the list before it and the list behind it. -/
theorem insertAfterUrgent_eq (e : TxEntry) (l : List TxEntry) :
    insertAfterUrgent e l = l.takeWhile TxEntry.urgent ++ e :: l.dropWhile TxEntry.urgent := by
  induction l with
  | nil => rfl
  | cons h t ih => cases hh : h.urgent <;> simp [insertAfterUrgent, List.takeWhile, List.dropWhile, hh, ih]

theorem insertAfterUrgent_perm (e : TxEntry) (l : List TxEntry) : (insertAfterUrgent e l).Perm (e :: l) := by
  rw [insertAfterUrgent_eq]
  calc (l.takeWhile TxEntry.urgent ++ e :: l.dropWhile TxEntry.urgent).Perm
        (e :: (l.takeWhile TxEntry.urgent ++ l.dropWhile TxEntry.urgent)) := List.perm_middle
    _ = e :: l := by rw [List.takeWhile_append_dropWhile]

theorem admitEntry_perm (e : TxEntry) (l : List TxEntry) : (admitEntry e l).Perm (e :: l) := by
  unfold admitEntry
  split
  · cases l with
    | nil => exact List.Perm.refl _
    | cons h t =>
      simp only [admitUrgent]
      split
      · exact ((insertAfterUrgent_perm e t).cons h).trans (List.Perm.swap e h t)
      · exact insertAfterUrgent_perm e (h :: t)
  · exact List.perm_append_comm.trans (List.Perm.refl _)

theorem admitEntry_length (e : TxEntry) (l : List TxEntry) : (admitEntry e l).length = l.length + 1 := by
  simpa using (admitEntry_perm e l).length_eq

theorem returnEntry_perm (e : TxEntry) (l : List TxEntry) :
    (returnEntry e l).Perm ({ e with onBus := false } :: l) := by
  unfold returnEntry
  split
  · exact List.Perm.refl _
  · exact insertAfterUrgent_perm _ _

/-! ## Giving up and withdrawing -/

theorem withdrawWaiting_eq_self {p : Producer} {l : List TxEntry} (h : ∀ e ∈ l, e.producer ≠ p) :
    withdrawWaiting p l = l := by
  simp only [withdrawWaiting]
  exact List.filter_eq_self.2 (fun a ha => by simp [h a ha])

/-- An entry that is back in WAITING and then withdrawn leaves the others as they were. -/
theorem withdrawWaiting_returnEntry {e : TxEntry} {l : List TxEntry} (h : ∀ x ∈ l, x.producer ≠ e.producer) :
    withdrawWaiting e.producer (returnEntry e l) = l := by
  have h1 := withdrawWaiting_eq_self
    (fun x hx => h x ((List.takeWhile_prefix (p := TxEntry.urgent)).subset hx))
  have h2 := withdrawWaiting_eq_self
    (fun x hx => h x ((List.dropWhile_suffix (p := TxEntry.urgent)).subset hx))
  have h3 := withdrawWaiting_eq_self h
  unfold returnEntry
  split
  · simp only [withdrawWaiting, List.filter_cons] at *
    rw [h3]
    simp
  · rw [insertAfterUrgent_eq]
    simp only [withdrawWaiting, List.filter_append, List.filter_cons] at *
    rw [h1, h2]
    simp

/-- In a list in order no other entry is of the head's producer (R129). -/
theorem producer_ne_of_txSafe {s : State} {e : TxEntry} {rest : List TxEntry} (h : TxSafe s) (ht : s.tx = e :: rest) :
    ∀ x ∈ rest, x.producer ≠ e.producer := by
  have hn := h.1.2.1
  rw [ht] at hn
  simp only [List.map_cons, List.nodup_cons, List.mem_map, not_exists, not_and] at hn
  exact fun x hx => hn.1 x hx

/-! ## The return to WAITING and the self-delivery in the words of Safety -/

theorem headReturned_eq_givenBack (s : State) (e : TxEntry) (rest : List TxEntry)
    (h : ∀ x ∈ rest, x.producer ≠ e.producer) : s.headReturned e rest = s.givenBack e rest := by
  have hw := withdrawWaiting_returnEntry h
  have hb : returnEntry e rest =
      if e.urgent then { e with onBus := false } :: rest
      else rest.takeWhile TxEntry.urgent ++ { e with onBus := false } :: rest.dropWhile TxEntry.urgent := by
    simp only [returnEntry, insertAfterUrgent_eq]
  unfold State.headReturned State.tellReturned State.givenBack
  simp only [← hb]
  generalize returnEntry e rest = back at *
  cases hun : e.unwanted
  · simp only [Bool.false_eq_true, if_false]
    rcases hp : e.producer with i | j | _ | _ <;> cases hk : e.kind <;> try rfl
    rw [hp] at hw
    simp only [State.holdReturned, State.source, State.dropOffBus, State.withdrawEntry, State.setTx, State.setSource, hw]
    rcases Bool.eq_false_or_eq_true (look s.sources i).dropNoted with hd | hd <;>
      rcases Bool.eq_false_or_eq_true (look s.sources i).announced with ha | ha <;>
      rcases Bool.eq_false_or_eq_true (look s.sources i).predOpen with hq | hq <;>
      simp [hd, ha, hq]
  · simp [State.withdrawEntry, State.setTx, hw]

theorem selfDeliver_eq_ownDelivery (s : State) (e : TxEntry) (h : s.bus.station ≠ .conflict)
    (hm : ∀ x ∈ s.tx, x.producer = e.producer → x.selfDelivered = true) : s.selfDeliver e = s.ownDelivery e := by
  have ht : s.tx.map (fun f => if f.producer = e.producer then { f with selfDelivered := true } else f) = s.tx := by
    conv => rhs; rw [← List.map_id s.tx]
    refine List.map_congr_left (fun a ha => ?_)
    split
    · next hp =>
      have := hm a ha hp
      cases a
      simp_all
    · rfl
  unfold State.selfDeliver State.ownDelivery
  simp only [ht]
  have hs : s.setTx s.tx = s := rfl
  rw [hs]
  have hi : s.inert = false := by simp [State.inert, h]
  rcases e.msg with _ | m
  · rfl
  · cases m <;> simp [State.dispatchEdge, State.selfHold, State.dispatchClear, hi]
    split <;> simp_all

end Sys2Proof.Machine
end

