-- ==== Sys2Proof/WellFormed.lean ====
section
/-! DEFINITION. The checks a command's operands satisfy when they describe the event the row names. The meanings
do not lean on them: an arrival whose operands fail them is judged by its verdict (log entry 21). -/

namespace Sys2Proof

/-- The operands describe the event of the row: a correct frame has the format of R121, a frame in error has a
verdict of error (R123), an unknown item has a code above 10 (R168). -/
def Instr.wellFormed : Instr → Bool
  | .frameInError cells =>
    match Machine.verdict cells with
    | .crcError | .formatError => true
    | .correct _ | .incomplete => false
  | .ownAddressFrame standing seq channel msg =>
    Machine.Frame.formatOk { standing := standing, sender := 0, seq := seq, channel := channel, msg := msg }
  | .edgeArrival _ channel count _ => channel != 0 && count != 0
  | .holdArrival _ channel _ _ => channel != 0
  | .clearArrival _ channel _ => channel != 0
  | .releaseArrival _ channel _ _ => channel != 0
  | .presenceArrival _ _ code _ => code.toNat < 6
  | .queryUnknownItem _ item _ => 10 < item.toNat
  | .fullReset _ _ | .resetHoldExpiry | .headerCheck _ | .passRetryWaitExpiry | .readPassEnd _
  | .inputPinChange _ _ | .stabilityIntervalExpiry _ | .releaseTimerExpiry _ | .repeatTimerExpiry _
  | .delayExpiry _ | .pulseExpiry _ | .gapExpiry _ | .busIdle | .contentionWon | .contentionLost | .bitError
  | .attemptConclusion _ _ | .holdOffExpiry | .frameTruncation | .joinArrival _ _ _
  | .reportArrival _ _ _ _ _ _ _ | .queryOtherTarget _ _ _ _ | .querySummary _ _ | .querySource _ _
  | .queryAccept _ _ | .queryGenerator _ _ | .queryCounter _ _ | .queryRoster _ _ | .queryTally _ _
  | .queryOutputs _ _ | .queryGroups _ _ | .faultReset _ _ | .queryRestart _ _ | .beaconIntervalExpiry
  | .frameBegins => true

end Sys2Proof
end

