-- ==== Sys2Proof/Tests/Slice0.lean ====
section
/-! SUPPORT. Tests: ill-formed commands that the check refuses, numbers from the spec's text, small steps, and for every
statement with hypotheses concrete states and operands that meet them, clause by clause. -/

namespace Sys2Proof.Tests

open Sys2Proof.Machine

set_option Elab.async false

/-! ## Well-formedness: one refused command for each check -/

/-- A peer's frame header. -/
def peer : Rx := { standing := 15, sender := 3, seq := 7 }

/-- A HOLD frame of station 3. -/
def holdFrame : Frame := { standing := 15, sender := 3, seq := 7, channel := 9, msg := .hold 0 false }

/-- An EDGE frame with repeat count 0, which is in format error (R121). -/
def badFrame : Frame := { standing := 15, sender := 3, seq := 7, channel := 9, msg := .edge 0 .rise }

theorem test_wf_refuses_a_correct_frame_in_error : (Instr.frameInError holdFrame.cells).wellFormed = false := by
  decide +kernel

theorem test_wf_refuses_cells_that_end_early : (Instr.frameInError (holdFrame.cells.take 40)).wellFormed = false := by
  decide +kernel

theorem test_wf_accepts_frames_in_error :
    (Instr.frameInError badFrame.cells).wellFormed = true ∧
      (Instr.frameInError (holdFrame.cells.set 11 true)).wellFormed = true := by
  decide +kernel

theorem test_wf_refuses_bad_own_address_frames :
    (Instr.ownAddressFrame 15 0 0 (.clear 1)).wellFormed = false ∧
      (Instr.ownAddressFrame 15 0 9 (.join true 0)).wellFormed = false := by
  decide +kernel

theorem test_wf_refuses_bad_edges :
    (Instr.edgeArrival peer 0 1 .rise).wellFormed = false ∧ (Instr.edgeArrival peer 9 0 .rise).wellFormed = false ∧
      (Instr.edgeArrival peer 9 1 .rise).wellFormed = true := by
  decide +kernel

theorem test_wf_refuses_channel_zero :
    (Instr.holdArrival peer 0 0 false).wellFormed = false ∧ (Instr.clearArrival peer 0 0).wellFormed = false ∧
      (Instr.releaseArrival peer 0 5 0).wellFormed = false := by
  decide +kernel

theorem test_wf_refuses_station_code_six :
    (Instr.presenceArrival peer false 6 false).wellFormed = false ∧
      (Instr.presenceArrival peer false 5 false).wellFormed = true := by
  decide +kernel

theorem test_wf_refuses_known_items :
    (Instr.queryUnknownItem peer 10 0).wellFormed = false ∧ (Instr.queryUnknownItem peer 11 0).wellFormed = true := by
  decide +kernel

/-! ## Numbers from the text -/

/-- R117: the check value of the CRC over the bytes of "123456789" is 29B1h. -/
theorem test_crc_check_value :
    crcBytes crcStart [0x31, 0x32, 0x33, 0x34, 0x35, 0x36, 0x37, 0x38, 0x39] = 0x29B1 := by
  decide +kernel

/-- R116: 46 cells and 8 for each byte of payload from the class bit to the end of the CRC field. -/
theorem test_cells_of_a_hold : holdFrame.cells.length = 54 ∧ verdict holdFrame.cells = .correct holdFrame := by
  decide +kernel

theorem test_no_word_spells_a_command : decodeTableWord 8 0 = none ∧ core.reset = State.reset := ⟨rfl, rfl⟩

/-! ## States for the tests -/

/-- The station with address 5, its loader READY, in a station state, with a frame of others on the bus. -/
def station (st : StationState) : State :=
  { State.reset.fullReset 5 2 with
    bus := { BusInterface.reset with station := st, phase := .receiving }
    loader := { Loader.reset 1000 with phase := .ready, timer := none, signature := some 0x1234 }
    outs := Vector.replicate 8 { OutputLine.reset with forcedSafe := forcedIn st false } }

/-- The same station JOINED. -/
def joined : State := station .joined

/-- A hold-mode entry on input line 0 and channel 9 with station 3 as releaser, in a hold state. -/
def holdEntry (h : HoldState) : SourceEntry :=
  { SourceEntry.reset with
    origin := .input 0, mode := .holdHigh, channel := 9, releasers := #v[some 3, some 5, none, none], holdState := h
    required := [3] }

/-- An edge-mode entry on input line 0. -/
def edgeEntry (st : EdgeState) (n : BitVec 4) : SourceEntry :=
  { SourceEntry.reset with
    origin := .input 0, mode := .edgeRise, channel := 8, edgeState := st, pendingCount := n, nextCount := n }

/-- Subscriptions to channel 9: a duty with FIRE 0, and one with SET 1. -/
def subscribed (s : State) : State :=
  { s with
    subs := upd (upd s.subs 0
      { channel := 9, sender := none, kinds := .hold, group := .always, action := { kind := .fire, target := some 0 },
        param := some 0, clearAction := { kind := .stop, target := some 0 }, policy := .atIdle }) 1
      { channel := 9, sender := some 3, kinds := .either, group := .always, action := { kind := .set, target := some 1 },
        param := some 0, clearAction := { kind := .clear, target := some 1 }, policy := .none } }

/-- A record of a HOLD of instance 2. -/
def record (a : Addr) (ch : Channel) (st : RecordState) : AcceptRecord :=
  { sender := a, channel := ch, inst := 2
    duties := [{ sub := 0, awaited := some 0, done := false, awaiting := true }], state := st, releaseListed := false }

/-- One record of station 3 on channel 9. -/
def recorded (s : State) (st : RecordState) : State := { s with slots := upd s.slots 4 (some (record 3 9 st)), ageOrder := [4] }

/-- A full acceptance table of records of station 9, channel by channel. -/
def full (s : State) (st : Fin 8 → RecordState) : State :=
  { s with
    slots := Vector.ofFn (fun j => some (record 9 (BitVec.ofNat 8 (20 + j.val)) (st j)))
    ageOrder := [3, 1, 0, 2, 4, 5, 6, 7] }

/-- The station sends the entry `e`. -/
def sends (s : State) (a : TxActivity) (e : TxEntry) : State :=
  { s with tx := [{ e with onBus := true }], bus := { s.bus with activity := a } }

/-- A HOLD of source entry 0. -/
def holdTx : TxEntry := { TxEntry.fresh .hold 9 (some (.hold 15 false)) (.source 0) with beenOnBus := true, seq := some 4 }

/-- A JOINED station whose source entry 0 is `e`. -/
def held (e : SourceEntry) : State := { joined with sources := upd joined.sources 0 e }

/-- A generator that runs on line 2 with its timer at 9 µs and `n` pulses remaining. -/
def running (p : GenPhase) (n : Byte) : Generator :=
  { Generator.reset with phase := p, remaining := .pulses n, timer := some 9, target := some 2 }

/-- A reply of the responder. -/
def reply (st : ReplyState) (re : Bool) : Reply :=
  { querier := 3, item := 10, index := 0, answer := .data, restart := re, state := st }

/-- The next state of an answer. -/
def after (r : Result) : Option State :=
  match r with
  | .next t => some t
  | _ => none

/-- The answer is a next state with a property. -/
def ends (r : Result) (p : State → Bool) : Bool := (after r).any p

/-! ## Small steps -/

theorem test_reset_runs_the_hold_expiry :
    after (step { State.reset with pending := [.resetHoldExpiry] }) =
      some { State.reset with
        time := 1000
        loader := { phase := .reading, passCount := 1, buffer := [], crc := 0xFFFF, reason := 0, failTable := 0,
                    failIndex := 0, signature := none, timer := some 1112, port := .selected } } := by
  decide +kernel

theorem test_tick_on_an_empty_queue :
    after (step { State.reset with time := 999 }) =
      some { State.reset with time := 1000, pending := [.resetHoldExpiry] } := by
  decide +kernel

/-- A HOLD of a peer makes a record, fires generator 0 and sets line 1. -/
theorem test_hold_arrival_makes_a_record :
    ends (exec (.holdArrival peer 9 2 false) (subscribed joined)) (fun t =>
      t.slot 0 = some (record 3 9 .acting) && (t.gen 0).phase = .pulse && (t.out 1).static &&
        (t.rosterAt 3).lastSeq = some 7 && t.bus.slotAnswer = .ack) = true := by
  decide +kernel

/-- The pulse of a FIRE ends, the duty is done, and the RELEASE is admitted. -/
theorem test_pulse_expiry_releases :
    ends (exec (.pulseExpiry 0) { (recorded joined .acting) with gens := upd joined.gens 0 (running .pulse 1) })
      (fun t =>
        (t.gen 0).phase = .idle && (t.slot 4).map (fun r => r.state) = some .releaseListed &&
          t.tx.map (fun e => e.msg) = [some (.release 3 2)]) = true := by
  decide +kernel

/-- A COUNT of 5 at value 2 of a WRAP counter with terminal 3 leaves 1 and raises two TERMINAL events (R104). -/
theorem test_count_wraps :
    let s : State := { joined with
      counters := upd joined.counters 0 { value := 2, terminal := 3, stick := false }
      sources := upd joined.sources 0 { edgeEntry .idle 0 with origin := .counter 0 } }
    ((s.countBy 0 5).counter 0).value = 1 ∧ ((s.countBy 0 5).source 0).pendingCount = 2 := by
  decide +kernel

/-- RELEASE from the one required releaser satisfies an announced hold. -/
theorem test_release_satisfies :
    ends (exec (.releaseArrival peer 9 5 15) (held { holdEntry .awaiting with announced := true, releaseTimer := some 9 }))
      (fun t => (t.source 0).holdState = .satisfied && (t.source 0).releaseTimer = none && (t.source 0).received = [3]) =
        true := by
  decide +kernel

/-- The address conflict forces the lines safe. -/
theorem test_own_address_frame :
    ends (exec (.ownAddressFrame 15 0 9 (.clear 1)) joined)
      (fun t => t.bus.station = .conflict && t.flt && (t.out 0).forcedSafe) = true := by
  decide +kernel

/-- A RESTART retrigger of a pulse keeps its line, completes the duty that awaits the generator, and measures the new
pulse from the event (R82). -/
theorem test_restart_retrigger :
    let s : State := { recorded joined .acting with
      time := 5
      gens := upd joined.gens 0 { running .pulse 1 with policy := .restart }
      outs := upd joined.outs 2 { OutputLine.reset with owner := some 0, forcedSafe := false } }
    let t := s.fire 0 3
    (t.gen 0).phase = .pulse ∧ (t.gen 0).timer = some 6 ∧ (t.out 2).owner = some 0 ∧
      (t.slot 4).map AcceptRecord.state = some .releaseOwed ∧ t.tally .missedTriggers = 0 := by
  decide +kernel

/-- A QUERY with the own address for its target sets the pending reply and lists its REPORT, under either command
(log entry 21). -/
theorem test_query_of_the_own_address :
    after (exec (.queryOtherTarget peer 5 0 0) joined) = after (exec (.querySummary peer 0) joined) ∧
      ends (exec (.queryOtherTarget peer 5 0 0) joined) (fun t => t.tx.map TxEntry.kind = [.report]) = true := by
  decide +kernel

/-- At the first win the frame of the entry is sent with the own address, and its cells begin with those that the
contention sent (R132, R133, R177). -/
theorem test_win_sends_the_frame :
    let s : State := sends joined (.contending 13) { holdTx with beenOnBus := false, seq := none }
    let f : Frame := { standing := 13, sender := 5, seq := 0, channel := 9, msg := .hold 15 false }
    ends (exec .contentionWon s) (fun t => t.frameSent = some f && t.cellsSent = f.cells ++ [true, true] &&
      t.cellsSent.length = f.cellCount && s.cellsSent = f.cells.take 10) =
      true := by
  decide +kernel

/-! ## An image -/

/-- The header of an image. -/
def header : List Byte := [0x4F, 0x4A, 1, 2, 1, 10, 8, 50, 0xFF, 0, 0]
/-- Four source entries with origin none. -/
def srcChunk : List Byte := (List.replicate 4 [31, 0, 0, 0, 0, 0, 0, 0]).flatten
/-- A sixth of the subscription table, unused. -/
def zeroChunk : List Byte := List.replicate 32 0
/-- Four profiles with width 1, gap 1 and count 1. -/
def profChunk : List Byte := (List.replicate 4 [0, 0, 0, 1, 0, 1, 1, 0]).flatten
/-- The generators, and four counters with terminal 1. -/
def genChunk : List Byte := List.replicate 16 0 ++ (List.replicate 4 [0, 1, 0]).flatten
/-- The input and output lines. -/
def lineChunk : List Byte := List.replicate 24 0
/-- Bytes 11–510 of the image. -/
def tables : List Byte :=
  srcChunk ++ srcChunk ++ srcChunk ++ srcChunk ++ zeroChunk ++ zeroChunk ++ zeroChunk ++ zeroChunk ++ zeroChunk ++
    zeroChunk ++ profChunk ++ profChunk ++ profChunk ++ profChunk ++ genChunk ++ lineChunk

theorem tables_length : tables.length = 500 := by decide +kernel

/-- Bytes 11–512 with the CRC bytes `hi` and `lo`. -/
def body (hi lo : Byte) : Vector Byte 502 := ⟨(tables ++ [hi, lo]).toArray, by simp [tables_length]⟩

theorem crcBytes_append (r : BitVec 16) (a b : List Byte) : crcBytes r (a ++ b) = crcBytes (crcBytes r a) b := by
  simp [crcBytes, List.foldl_append]

theorem crc_chunk0 : crcBytes 0xAB1B srcChunk = 0x6DB2 := by decide +kernel
theorem crc_chunk1 : crcBytes 0x6DB2 srcChunk = 0x9BE8 := by decide +kernel
theorem crc_chunk2 : crcBytes 0x9BE8 srcChunk = 0xA4CC := by decide +kernel
theorem crc_chunk3 : crcBytes 0xA4CC srcChunk = 0x52F5 := by decide +kernel
theorem crc_chunk4 : crcBytes 0x52F5 zeroChunk = 0xD5BB := by decide +kernel
theorem crc_chunk5 : crcBytes 0xD5BB zeroChunk = 0xB6BE := by decide +kernel
theorem crc_chunk6 : crcBytes 0xB6BE zeroChunk = 0x7167 := by decide +kernel
theorem crc_chunk7 : crcBytes 0x7167 zeroChunk = 0xE492 := by decide +kernel
theorem crc_chunk8 : crcBytes 0xE492 zeroChunk = 0xCA43 := by decide +kernel
theorem crc_chunk9 : crcBytes 0xCA43 zeroChunk = 0x217C := by decide +kernel
theorem crc_chunk10 : crcBytes 0x217C profChunk = 0x3D28 := by decide +kernel
theorem crc_chunk11 : crcBytes 0x3D28 profChunk = 0x8399 := by decide +kernel
theorem crc_chunk12 : crcBytes 0x8399 profChunk = 0xB3FC := by decide +kernel
theorem crc_chunk13 : crcBytes 0xB3FC profChunk = 0x212C := by decide +kernel
theorem crc_chunk14 : crcBytes 0x212C genChunk = 0x8240 := by decide +kernel
theorem crc_chunk15 : crcBytes 0x8240 lineChunk = 0x8D04 := by decide +kernel

theorem crc_tables : crcBytes 0xAB1B tables = 0x8D04 := by
  simp only [tables, crcBytes_append, crc_chunk0, crc_chunk1, crc_chunk2, crc_chunk3, crc_chunk4, crc_chunk5, crc_chunk6, crc_chunk7, crc_chunk8, crc_chunk9, crc_chunk10, crc_chunk11, crc_chunk12, crc_chunk13, crc_chunk14, crc_chunk15]

theorem body_take (hi lo : Byte) : (body hi lo).toList.take 500 = tables := by
  rw [← tables_length]
  simp [body, Vector.toList]

/-- The loader before the rest of an image, with a header in its buffer and the CRC register after it. -/
def reading (h : List Byte) : State :=
  { State.reset with
    loader := { State.reset.loader with
      phase := .reading, port := .selected, passCount := 1, buffer := h, crc := 0xAB1B, timer := some 5128 } }

/-! ## Witnesses: states and operands that meet the hypotheses of the statements -/

/-- Every timer ends at 1 µs; the loader waits for the end of its reset hold, or of its wait between two passes. -/
def allEnd (ph : LoaderPhase) (po : PortState) : State :=
  { held { holdEntry .awaiting with releaseTimer := some 1, repeatTimer := some 1 } with
    inputs := upd joined.inputs 0 { InputLine.reset with stability := some 1 }
    gens := upd (upd (upd joined.gens 0 { running .delay 1 with timer := some 1 }) 1
      { running .pulse 1 with timer := some 1 }) 2 { running .gap 1 with timer := some 1 }
    bus := { joined.bus with holdOff := some 1 }
    beacon := { Beacon.reset with timer := some 1 }
    loader := { Loader.reset 1 with phase := ph, port := po } }

theorem witness_EmptyQueueTicks :
    ((allEnd .resetHold .holdLevels).pending = [] ∧
      ∀ c ∈ [Instr.resetHoldExpiry, .stabilityIntervalExpiry 0, .releaseTimerExpiry 0, .repeatTimerExpiry 0,
          .delayExpiry 0, .pulseExpiry 1, .gapExpiry 2, .holdOffExpiry, .beaconIntervalExpiry],
        c ∈ (allEnd .resetHold .holdLevels).dueExpiries 1 ∧ c ∉ (allEnd .resetHold .holdLevels).dueExpiries 0) ∧
      Instr.passRetryWaitExpiry ∈ (allEnd .reading .deselected).dueExpiries 1 := by
  decide +kernel

theorem witness_ExpiryBeginsReadPass :
    (State.reset.loader.timer = some 1000 ∧ State.reset.loader.phase = .resetHold) ∧
      let l : Loader := { Loader.reset 9 with phase := .reading, port := .deselected }
      l.timer = some 9 ∧ l.phase = .reading ∧ l.port = .deselected := by
  decide +kernel

/-- A correct, a blank and a wrong header; the loader waits for one in its first or third pass. -/
theorem witness_HeaderCheckJudgesTheHeader :
    let l (n : Nat) : Loader := { Loader.reset 112 with phase := .reading, port := .selected, passCount := n }
    ((l 2).phase = .reading ∧ (l 2).port = .selected ∧ (l 2).buffer = [] ∧ (l 2).timer = some 112 ∧
      (l 2).passCount < 3 ∧ 3 ≤ (l 3).passCount) ∧
      headerFault header = none ∧ headerFault (List.replicate 11 0xFF) = some 1 ∧
      headerFault (header.set 4 2) = some 3 := by
  decide +kernel

theorem witness_HeaderCheck_defaults :
    DefaultsSafe (reading []) ∧ (reading []).loader.phase = .reading ∧ (reading []).loader.port = .selected ∧
      (reading []).loader.buffer = [] ∧ (reading []).loader.timer = some 5128 := by
  decide +kernel

theorem witness_ReadPassEnd_reading (h : List Byte) (hh : h.length = 11) :
    (reading h).loader.phase = .reading ∧ (reading h).loader.port = .selected ∧
      (reading h).loader.buffer.length = 11 ∧ (reading h).loader.timer = some 5128 ∧ (reading h).tx = [] :=
  ⟨rfl, rfl, hh, rfl, rfl⟩

theorem witness_ReadPassEndRefusesAnImage_wrong_crc :
    crcBytes (reading header).loader.crc ((body 0 0).toList.take 500) ≠
        imageCrc ((reading header).loader.buffer ++ (body 0 0).toList) ∧
      (reading header).loader.passCount < 3 := by
  rw [body_take, show (reading header).loader.crc = 0xAB1B from rfl, crc_tables]
  decide +kernel

theorem witness_ReadPassEnd_last_pass :
    let l : Loader := { (reading header).loader with passCount := 3 }
    3 ≤ l.passCount ∧ crcBytes l.crc ((body 0 0).toList.take 500) ≠ imageCrc (l.buffer ++ (body 0 0).toList) := by
  rw [body_take]
  refine ⟨Nat.le_refl 3, ?_⟩
  show crcBytes 0xAB1B tables ≠ _
  rw [crc_tables]
  decide +kernel

theorem witness_ReadPassEndRefusesAnImage_refused :
    crcBytes (reading (header.set 5 0)).loader.crc ((body 0x8D 0x04).toList.take 500) =
        imageCrc ((reading (header.set 5 0)).loader.buffer ++ (body 0x8D 0x04).toList) ∧
      validate ((reading (header.set 5 0)).loader.buffer ++ (body 0x8D 0x04).toList) = some (7, 5) := by
  rw [body_take, show (reading (header.set 5 0)).loader.crc = 0xAB1B from rfl, crc_tables]
  decide +kernel

theorem witness_validation :
    let b (k : Nat) := (imgByte (header.set 5 0) k).toNat
    Breaks b 7 5 ∧ CheckedBefore 7 5 7 6 ∧ CheckedBefore 7 8 0 0 ∧ CheckedBefore 0 15 1 0 ∧ ¬CheckedBefore 0 0 7 8 := by
  refine ⟨Or.inl ⟨rfl, rfl, Or.inl (by decide)⟩, ?_⟩
  unfold CheckedBefore
  decide

theorem witness_ReadPassEndReachesReady :
    crcBytes (reading header).loader.crc ((body 0x8D 0x04).toList.take 500) =
        imageCrc ((reading header).loader.buffer ++ (body 0x8D 0x04).toList) ∧
      validate ((reading header).loader.buffer ++ (body 0x8D 0x04).toList) = none ∧
      ∀ g, (imageGen ((reading header).loader.buffer ++ (body 0x8D 0x04).toList) g).autostart = false := by
  rw [body_take, show (reading header).loader.crc = 0xAB1B from rfl, crc_tables]
  decide +kernel

/-- Hold-mode entries on input line 0, on generators 0 (HOLD-LOW) and 1, and on input line 1. -/
def srcHolds : List Byte :=
  [0x60, 1, 0, 0, 0x83, 0, 0, 0, 0x90, 2, 0, 0, 0x83, 0, 0, 0, 0x71, 3, 0, 0, 0x83, 0, 0, 0, 0x61, 4, 0, 0, 0x83, 0, 0, 0]
/-- Four profiles; the second has a delay and no end. -/
def profDelay : List Byte := [0, 0, 0, 1, 0, 1, 1, 0, 0, 1, 0, 1, 0, 1, 0, 3] ++ profChunk.take 16
/-- Autostart generators 0 and 2 on line 1 and generator 1 without a line, and four counters with terminal 1. -/
def genAuto : List Byte :=
  [0x09, 0x90, 0x10, 0x10, 0x09, 0x10] ++ List.replicate 10 0 ++ (List.replicate 4 [0, 1, 0]).flatten
/-- Input line 0 inverted. -/
def lineHigh : List Byte := 0x80 :: List.replicate 23 0
/-- Bytes 11–510 of an image with holds and autostarts. -/
def tablesHolds : List Byte :=
  srcHolds ++ srcChunk ++ srcChunk ++ srcChunk ++ zeroChunk ++ zeroChunk ++ zeroChunk ++ zeroChunk ++ zeroChunk ++
    zeroChunk ++ profDelay ++ profChunk ++ profChunk ++ profChunk ++ genAuto ++ lineHigh

theorem tablesHolds_length : tablesHolds.length = 500 := by decide +kernel

/-- Bytes 11–512 of that image. -/
def bodyHolds : Vector Byte 502 := ⟨(tablesHolds ++ [0x53, 0x1A]).toArray, by simp [tablesHolds_length]⟩

theorem crc_chunks_holds :
    crcBytes 0xAB1B srcHolds = 0xF338 ∧
    crcBytes 0xF338 srcChunk = 0x2518 ∧
    crcBytes 0x2518 srcChunk = 0x84C1 ∧
    crcBytes 0x84C1 srcChunk = 0x6C5D ∧
    crcBytes 0x6C5D zeroChunk = 0x7F4D ∧
    crcBytes 0x7F4D zeroChunk = 0x33DA ∧
    crcBytes 0x33DA zeroChunk = 0x5A61 ∧
    crcBytes 0x5A61 zeroChunk = 0x6814 ∧
    crcBytes 0x6814 zeroChunk = 0x2BD0 ∧
    crcBytes 0x2BD0 zeroChunk = 0x4969 ∧
    crcBytes 0x4969 profDelay = 0x3CCD ∧
    crcBytes 0x3CCD profChunk = 0x39C2 ∧
    crcBytes 0x39C2 profChunk = 0xBECD ∧
    crcBytes 0xBECD profChunk = 0xCDA0 ∧
    crcBytes 0xCDA0 genAuto = 0x41E1 ∧
    crcBytes 0x41E1 lineHigh = 0x531A := by
  refine ⟨?_, ?_, ?_, ?_, ?_, ?_, ?_, ?_, ?_, ?_, ?_, ?_, ?_, ?_, ?_, ?_⟩ <;> decide +kernel

theorem bodyHolds_take : bodyHolds.toList.take 500 = tablesHolds := by
  rw [← tablesHolds_length]
  simp [bodyHolds, Vector.toList]

theorem witness_ReadPassEndReachesReady_holds :
    crcBytes (reading header).loader.crc (bodyHolds.toList.take 500) =
        imageCrc ((reading header).loader.buffer ++ bodyHolds.toList) ∧
      validate ((reading header).loader.buffer ++ bodyHolds.toList) = none ∧ AdmissionSafe (reading header) := by
  rw [bodyHolds_take, show (reading header).loader.crc = 0xAB1B from rfl]
  refine ⟨?_, by decide +kernel, by decide +kernel⟩
  simp only [tablesHolds, crcBytes_append, crc_chunks_holds]
  decide +kernel

/-- That image has an entry in each case of the statement: conditions asserted, not asserted and retracted by a trigger,
autostart with and without a delay, and no autostart. -/
theorem test_ready_with_holds :
    let img := header ++ bodyHolds.toList
    let t : State := forEach (fun i w => w.evaluateCondition i) ((reading header).configure img)
    let u := t.fire 0 1
    (t.sources.toList.take 4).map (fun e => (e.holdState, e.inst, e.condition)) =
        [(.announcing, 0, true), (.announcing, 0, true), (.quiet, 15, false), (.quiet, 15, false)] ∧
      (u.sources.toList.take 2).map (fun e => (e.holdState, e.inst, e.condition)) =
        [(.announcing, 0, true), (.quiet, 0, false)] ∧
      (t.gens.toList.take 4).map (fun g => (g.autostart, g.active.delay)) = [(true, 0), (true, 1), (true, 0), (false, 0)] ∧
      (u.gen 0).phase = .pulse ∧ (u.out 1).owner = some 0 := by
  decide +kernel

/-- A line on which filter time 2 is set, with its interval stopped or running. -/
def line (filtered : Bool) (filter : BitVec 7) (st : Timer) : InputLine :=
  { invert := false, filterTime := filter, filtered := filtered, stability := st }

/-- A JOINED station with input line 0 so. -/
def lined (l : InputLine) : State := { joined with inputs := upd joined.inputs 0 l }

theorem witness_PinChangeDrivesTheFilter :
    State.reset.loader.phase ≠ .ready ∧ joined.loader.phase = .ready ∧
      (false != ((lined (line false 2 none)).input 0).invert) = ((lined (line false 2 none)).input 0).filtered ∧
      (true != ((lined (line false 2 none)).input 0).invert) ≠ ((lined (line false 2 none)).input 0).filtered ∧
      ((lined (line false 2 none)).input 0).filterTime ≠ 0 ∧ ((lined (line false 2 none)).input 0).stability = none ∧
      ((lined (line false 2 (some 9))).input 0).stability ≠ none ∧ ((lined (line false 0 none)).input 0).filterTime = 0 := by
  decide +kernel

theorem witness_StabilityExpiryChangesTheFilteredLevel :
    ∀ st ∈ [EdgeState.idle, .owed, .listed, .sending],
      let s : State := { lined (line false 2 (some 9)) with
        pins := upd joined.pins 0 true
        sources := upd (upd joined.sources 3 (edgeEntry st 2)) 5 (holdEntry .quiet) }
      (s.input 0).stability = some 9 ∧ (look s.pins 0 != (s.input 0).invert) ≠ (s.input 0).filtered ∧
        (s.source 3).origin = .input 0 ∧ (s.source 3).mode.counts (.input 0) .rise = true ∧
        (s.source 3).edgeState = st ∧ (s.source 5).origin = .input 0 ∧ (s.source 5).isHold = true ∧
        (s.source 4).origin ≠ .input 0 := by
  decide +kernel

/-- A hold-mode entry of each mode with its condition asserted or not, its HOLD WAITING. -/
theorem witness_levels :
    (∀ c : Bool, ∀ m ∈ [Mode.holdHigh, .holdLow],
      let s : State :=
        { held { holdEntry .announcing with condition := c, mode := m } with tx := [TxEntry.fresh .hold 9 none (.source 0)] }
      (s.source 0).origin = .input 0 ∧ (s.source 0).isHold = true ∧ (s.source 0).condition = c ∧
        (s.source 0).holdState = .announcing ∧ s.holdOnBus 0 = false ∧ (s.source 1).origin ≠ .input 0) ∧
      let s : State := { held (holdEntry .orphaned) with faults := { FaultSet.empty with orphaned := true } }
      (s.faults.orphaned = true ↔ ∃ i, (s.source i).holdState = .orphaned) := by
  decide +kernel

theorem witness_InputEdgesAreCountedByMode :
    let s : State := held (edgeEntry .owed 3)
    (s.source 0).origin = .input 0 ∧ (s.source 0).mode.counts (.input 0) .rise = true ∧
      (s.source 0).mode.counts (.input 0) .fall = false := by
  decide +kernel

theorem witness_QualifyingEdgesSaturateAt15 :
    ((held (edgeEntry .idle 0)).source 0).edgeState = .idle ∧ ((held (edgeEntry .owed 14)).source 0).edgeState = .owed ∧
      ((held (edgeEntry .listed 15)).source 0).edgeState = .listed ∧
      ((held (edgeEntry .owed 14)).source 0).pendingCount ≠ 15 ∧
      ((held (edgeEntry .listed 15)).source 0).pendingCount = 15 ∧
      ((held (edgeEntry .sending 14)).source 0).nextCount ≠ 15 ∧
      ((held (edgeEntry .sending 15)).source 0).edgeState = .sending ∧
      ((held (edgeEntry .sending 15)).source 0).nextCount = 15 := by
  decide +kernel

theorem witness_AssertionStartsAnInstance :
    ∀ h ∈ [HoldState.quiet, .announcing, .awaiting, .orphaned, .satisfied, .ending],
      ((held (holdEntry h)).source 0).holdState = h := by
  decide +kernel

theorem witness_DropIsTakenByTheHoldState :
    let on : State := sends (held (holdEntry .announcing)) (.attempting 15) holdTx
    let off (a p : Bool) : State := held { holdEntry .announcing with announced := a, predOpen := p }
    ((on.source 0).holdState = .announcing ∧ on.holdOnBus 0 = true) ∧
      (∀ a p : Bool, ((off a p).source 0).holdState = .announcing ∧ (off a p).holdOnBus 0 = false ∧
        ((off a p).source 0).announced = a ∧ ((off a p).source 0).predOpen = p) ∧
      ∀ h ∈ [HoldState.quiet, .ending, .awaiting, .orphaned, .satisfied], ((held (holdEntry h)).source 0).holdState = h := by
  decide +kernel

theorem witness_ReleaseTimerExpiryReannouncesOrOrphans :
    let e (n : BitVec 2) : SourceEntry := { holdEntry .awaiting with releaseTimer := some 9, reannounces := n }
    ((held (e 2)).source 0).releaseTimer = some 9 ∧ ((held (e 2)).source 0).reannounces ≠ 3 ∧
      ((held (e 3)).source 0).releaseTimer = some 9 ∧ ((held (e 3)).source 0).reannounces = 3 := by
  decide +kernel

theorem witness_RepeatTimerExpiryStartsTheNextInstance :
    ((held { holdEntry .satisfied with repeatTimer := some 9 }).source 0).repeatTimer = some 9 := by
  decide +kernel

/-- A new frame from a peer, for the statements about arrivals. -/
theorem witness_arrival :
    Receiving joined ∧ Acting joined ∧ peer.sender ≠ joined.address ∧ (9 : Channel) ≠ 0 ∧ (1 : BitVec 4) ≠ 0 ∧
      NewFrame joined peer := by
  decide +kernel

theorem witness_ReleaseIsJudgedByTheTable :
    let s (h : HoldState) (q : BitVec 3) (r : List Addr) (a : Bool) : State :=
      held { holdEntry h with quorum := q, received := r, announced := a }
    (6 : Addr) ≠ joined.address ∧ (∀ i, (joined.source i).isHold = true → (joined.source i).channel ≠ 9) ∧
      (∀ h ∈ [HoldState.quiet, .ending, .satisfied, .announcing, .awaiting, .orphaned],
        ((s h 0 [] true).source 0).isHold = true ∧ ((s h 0 [] true).source 0).channel = 9 ∧
          ((s h 0 [] true).source 0).inst = 15 ∧ ((s h 0 [] true).source 0).holdState = h ∧
          ∀ j, j < (0 : Fin 16) → ((s h 0 [] true).source j).isHold = true → ((s h 0 [] true).source j).channel ≠ 9) ∧
      (some (4 : Addr) ∉ (holdEntry .awaiting).releasers.toList ∧ some (3 : Addr) ∈ (holdEntry .awaiting).releasers.toList) ∧
      ((3 : Addr) ∈ ((s .awaiting 0 [3] true).source 0).received ∧
        4 ≤ ((s .awaiting 4 [6, 7, 8, 9] true).source 0).received.length ∧
        (3 : Addr) ∉ ((s .awaiting 4 [6, 7, 8] true).source 0).received ∧
        ((s .awaiting 4 [6, 7, 8] true).source 0).received.length < 4 ∧
        ((s .awaiting 4 [6, 7, 8] true).source 0).announced = true ∧
        ((s .announcing 0 [] false).source 0).announced = false) := by
  decide +kernel

theorem witness_QuorumMetSatisfiesTheHold :
    let s (d r : Bool) (n : Byte) : State :=
      held { holdEntry .announcing with dropNoted := d, repeatFlag := r, repeatDelay := n }
    ((s true true 0).source 0).dropNoted = true ∧ ((s false false 0).source 0).repeatFlag = false ∧
      ((s false true 1).source 0).repeatDelay ≠ 0 ∧ ((s false true 0).source 0).repeatDelay = 0 ∧
      ((s false true 0).source 0).dropNoted = false ∧ ((s false true 0).source 0).repeatFlag = true := by
  decide +kernel

/-- An instance that the loss of station 3 leaves to be waived, announced or not, and one that it does not. -/
theorem witness_waivers :
    let e (h : HoldState) (a : Bool) : SourceEntry := { holdEntry h with waiveLost := true, announced := a }
    (∀ h ∈ [HoldState.announcing, .awaiting, .orphaned], ∀ a : Bool,
      (e h a).isHold = true ∧ (e h a).quorum = 0 ∧ (e h a).waiveLost = true ∧ (3 : Addr) ∈ (e h a).required ∧
        (e h a).announced = a) ∧
      (e .satisfied true).holdState = .satisfied ∧ (holdEntry .awaiting).waiveLost = false ∧
      (1 : BitVec 3) ≠ 0 := by
  decide +kernel

theorem witness_DelayAndGapExpiryStartAPulse :
    let s (p : GenPhase) (o : Option (Fin 8)) : State := { joined with
      gens := upd joined.gens 0 { running p 2 with target := o, pendingProfile := some 3 }
      outs := upd joined.outs 1 { OutputLine.reset with owner := some 7, forcedSafe := false } }
    ∀ p ∈ [GenPhase.delay, .gap], ∀ o ∈ [none, some (2 : Fin 8), some 1],
      ((s p o).gen 0).timer = some 9 ∧ ((s p o).gen 0).phase = p ∧ ((s p o).gen 0).target = o ∧
        ((s p o).out 2).owner = none ∧ ((s p o).out 1).owner = some 7 := by
  decide +kernel

theorem witness_PulseExpiryEndsThePulse :
    let s (r : Remaining) (h : Bool) : State :=
      { joined with gens := upd joined.gens 0 { running .pulse 1 with remaining := r, pendingTrigger := h } }
    ∀ r ∈ [Remaining.unending, .pulses 2, .pulses 1], ∀ h : Bool,
      ((s r h).gen 0).phase = .pulse ∧ ((s r h).gen 0).timer = some 9 ∧ ((s r h).gen 0).remaining = r ∧
        ((s r h).gen 0).pendingTrigger = h := by
  decide +kernel

theorem witness_runs :
    let s (p : GenPhase) (q : RetriggerPolicy) (h : Bool) : State :=
      { joined with gens := upd joined.gens 0 { running p 1 with policy := q, pendingTrigger := h } }
    ∀ p ∈ [GenPhase.idle, .delay], ∀ q ∈ [RetriggerPolicy.ignore, .restart, .stack], ∀ h : Bool,
      1 ≤ 2 ∧ ((s p q h).gen 0).policy = q ∧ ((s p q h).gen 0).phase = p ∧ ((s p q h).gen 0).pendingTrigger = h := by
  decide +kernel

/-- An IDLE generator whose profile has this delay, with and without a pending profile, on a free and on an owned
line. -/
theorem witness_startRun :
    let p (d : BitVec 16) : Profile := { Profile.reset with delay := d }
    let s (q : Option (Fin 16)) (d : BitVec 16) (o : Option (Fin 8)) : State := { joined with
      profiles := upd joined.profiles 3 (p d)
      gens := upd joined.gens 0 { Generator.reset with target := o, pendingProfile := q, active := p d }
      outs := upd joined.outs 1 { OutputLine.reset with owner := some 7, forcedSafe := false } }
    ∀ q ∈ [none, some (3 : Fin 16)], ∀ o ∈ [none, some (2 : Fin 8), some 1],
      ((s q 0 o).gen 0).phase = .idle ∧ ((s q 0 o).gen 0).pendingProfile = q ∧ ((s q 0 o).gen 0).active.delay = 0 ∧
        (look (s q 0 o).profiles 3).delay = 0 ∧ ((s q 1 o).gen 0).active.delay ≠ 0 ∧
        (look (s q 1 o).profiles 3).delay ≠ 0 ∧ ((s q 0 o).gen 0).target = o ∧ ((s q 0 o).out 2).owner = none ∧
        ((s q 0 o).out 1).owner = some 7 := by
  decide +kernel

theorem witness_LinesAndClaims :
    let l (f : Bool) (w : Option (Fin 8)) : State :=
      { joined with outs := upd joined.outs 0 { OutputLine.reset with owner := w, forcedSafe := f } }
    ∀ f : Bool, ∀ w ∈ [none, some (2 : Fin 8)], ((l f w).out 0).forcedSafe = f ∧ ((l f w).out 0).owner = w := by
  decide +kernel

theorem witness_actions :
    let s (a : Action) : State := { joined with subs := upd joined.subs 0 { Subscription.reset with clearAction := a } }
    ((s { kind := .select, target := some 2 }).sub 0).clearAction = { kind := .select, target := some 2 } ∧
      ((s { kind := .stop, target := some 2 }).sub 0).clearAction.kind ≠ .select ∧ 3 % 2 = 1 ∧ ¬2 % 2 = 1 := by
  decide +kernel

/-- A counter with terminal 3. -/
def terminal3 (v : BitVec 16) (st : Bool) : Counter := { value := v, terminal := 3, stick := st }

theorem witness_CountWrapsAtTheTerminal :
    (terminal3 2 false).stick = false ∧ 1 ≤ (terminal3 2 false).terminal.toNat ∧
      (terminal3 2 false).value.toNat < (terminal3 2 false).terminal.toNat := by
  decide

theorem witness_CountSticksAtTheTerminal :
    1 ≤ (terminal3 3 true).terminal.toNat ∧ (terminal3 3 true).value.toNat ≤ (terminal3 3 true).terminal.toNat ∧
      (terminal3 3 true).stick = true ∧ (terminal3 3 true).value = (terminal3 3 true).terminal ∧
      (terminal3 2 true).value.toNat + 0 < (terminal3 2 true).terminal.toNat ∧
      (terminal3 2 true).value ≠ (terminal3 2 true).terminal ∧
      (terminal3 2 true).terminal.toNat ≤ (terminal3 2 true).value.toNat + 1 := by
  decide

/-- The hypotheses of the HOLD_ARRIVAL statement on a state that holds no record of station 3 and channel 9. -/
abbrev NoRecord (s : State) : Prop :=
  Receiving s ∧ Acting s ∧ NewFrame s peer ∧ ∀ j : Fin 8, ∀ r ∈ s.slot j, r.sender ≠ peer.sender ∨ r.channel ≠ 9

/-- The duties of a HOLD of station 3 on channel 9. -/
def duties (s : State) : List Duty := s.dutyList (s.snapshot .hold peer.sender 9)

/-- A record in slot 0, and slot 1 empty. -/
def slotOneEmpty : State :=
  subscribed { joined with slots := upd joined.slots 0 (some (record 9 9 .acting)), ageOrder := [0] }

/-- A full table with RELEASED records in slots 0 and 2. -/
def twoReleased : State := subscribed (full joined (fun j => if j.val = 0 ∨ j.val = 2 then .released else .acting))

/-- A full table without a RELEASED record. -/
def noneReleased : State := subscribed (full joined (fun _ => .acting))

theorem witness_HoldArrival_no_duty : NoRecord joined ∧ duties joined = [] := by decide +kernel

theorem witness_HoldArrival_empty_slot :
    NoRecord slotOneEmpty ∧ duties slotOneEmpty ≠ [] ∧ slotOneEmpty.slot 1 = none ∧
      ∀ i, i < (1 : Fin 8) → slotOneEmpty.slot i ≠ none := by
  decide +kernel

theorem witness_HoldArrival_released_slot :
    NoRecord twoReleased ∧ duties twoReleased ≠ [] ∧ (∀ i, twoReleased.slot i ≠ none) ∧
      twoReleased.ageOrder = [3, 1] ++ 0 :: [2, 4, 5, 6, 7] ∧
      (twoReleased.slot 0).map AcceptRecord.state = some .released ∧
      ∀ i ∈ [(3 : Fin 8), 1], ∀ r ∈ twoReleased.slot i, r.state ≠ .released := by
  decide +kernel

theorem witness_HoldArrival_overflow :
    NoRecord noneReleased ∧ duties noneReleased ≠ [] ∧ (∀ i, noneReleased.slot i ≠ none) ∧
      ∀ j : Fin 8, ∀ r ∈ noneReleased.slot j, r.state ≠ .released := by
  decide +kernel

/-- The hypotheses of the statements on a HOLD or CLEAR that finds the record of its sender and channel. -/
abbrev HasRecord (s : State) (st : RecordState) : Prop :=
  Receiving s ∧ Acting s ∧ NewFrame s peer ∧ AcceptanceSafe s ∧ s.slot 4 = some (record 3 9 st)

theorem witness_HoldArrivalRepeatsOrSupersedes :
    HasRecord (recorded joined .released) .released ∧ (record 3 9 .released).sender = peer.sender ∧
      (record 3 9 .released).channel = 9 ∧ (record 3 9 .released).inst = 2 ∧ (record 3 9 .released).inst ≠ 3 ∧
      duties (recorded joined .released) = [] := by
  decide +kernel

theorem witness_HoldArrivalRepeatsOrSupersedes_duties :
    HasRecord (recorded (subscribed joined) .acting) .acting ∧ duties (recorded (subscribed joined) .acting) ≠ [] := by
  decide +kernel

theorem witness_ClearArrival_another_instance :
    ∀ j : Fin 8, ∀ r ∈ (recorded joined .released).slot j, r.sender = peer.sender → r.channel = 9 → r.inst ≠ 3 := by
  decide +kernel

/-- A duty of an IMMEDIATE and of an AT-IDLE entry, and an entry that is none. -/
theorem witness_duties :
    let s (p : ReleasePolicy) : State := { recorded joined .acting with
      subs := upd joined.subs 0 { Subscription.reset with policy := p } }
    (∀ p ∈ [ReleasePolicy.immediate, .atIdle], ((s p).sub 0).policy = .immediate ∨ ((s p).sub 0).policy = .atIdle) ∧
      ¬(((s .none).sub 0).policy = .immediate ∨ ((s .none).sub 0).policy = .atIdle) ∧
      (recorded joined .acting).slot 4 = some (record 3 9 .acting) ∧ joined.slot 4 = none := by
  decide +kernel

/-- A station that owes a frame of every kind but CLEAR, in the list of R129. -/
def owing (st : StationState) : State :=
  { recorded (station st) .releaseOwed with
    sources := upd (upd joined.sources 0 (holdEntry .announcing)) 1 (edgeEntry .owed 1)
    reply := some (reply .owed false)
    beacon := { Beacon.reset with owesJoin := true, owesPresence := true } }

/-- Who owes, with the place in the order of R129. -/
theorem witness_owed (st : StationState) :
    OwedAt (owing st) (TxEntry.fresh .release 9 (some (.release 3 2)) (.record 4)) 4 ∧
      OwedAt (owing st) (TxEntry.fresh .hold 9 (some (.hold 15 false)) (.source 0)) 8 ∧
      OwedAt (owing st) (TxEntry.fresh .join 0 (some (.join true 0x1234)) .beacon) 24 ∧
      OwedAt (owing st) (TxEntry.fresh .edge 8 none (.source 1)) 26 ∧
      OwedAt (owing st) (TxEntry.fresh .report 0 none .responder) 41 ∧
      OwedAt (owing st) (TxEntry.fresh .presence 0 none .beacon) 42 := by
  refine ⟨.inl ⟨4, rfl, record 3 9 .releaseOwed, rfl, rfl, ?_⟩, .inr (.inl ⟨0, rfl, ?_⟩), .inr (.inr (.inl ⟨rfl, ?_⟩)),
    .inr (.inr (.inr (.inl ⟨1, rfl, ?_⟩))), .inr (.inr (.inr (.inr (.inl ⟨rfl, ⟨reply .owed false, rfl, rfl⟩, ?_⟩)))),
    .inr (.inr (.inr (.inr (.inr ⟨rfl, ?_⟩))))⟩ <;> cases st <;> decide +kernel

theorem witness_AdmissionFillsTheList :
    (∀ i, ((owing .joined).source i).isHold = true → ((owing .joined).source i).edgeState = .idle) ∧
      (owing .joined).bus.station = .joined ∧ (owing .joined).tx.length ≤ 8 ∧ (owing .joining).bus.station = .joining ∧
      (owing .joining).tx = [] ∧ (station .joining).beacon.owesJoin = false ∧
      OwesHold (held (holdEntry .ending)) (TxEntry.fresh .clear 9 (some (.clear 15)) (.source 0)) 0 ∧
      (owing .listening).bus.station ≠ .joining ∧ (owing .listening).bus.station ≠ .joined ∧
      AdmittedBy (owing .joined) (owing .joined).settle (TxEntry.fresh .release 9 (some (.release 3 2)) (.record 4)) ∧
      AdmittedBy (owing .joined) (owing .joined).settle (TxEntry.fresh .report 0 none .responder) ∧
      AdmittedBy (owing .joining) (owing .joining).settle (TxEntry.fresh .join 0 (some (.join true 0x1234)) .beacon) := by
  refine ⟨?_, ?_, ?_, ?_, ?_, ?_, ?_, ?_, ?_, ?_, ?_, ?_⟩ <;> decide +kernel

theorem witness_IdleBusOffersTheWaitingHead :
    let s (st : StationState) (p : ReceivePhase) (l : List TxEntry) : State :=
      { station st with bus := { (station st).bus with phase := p }, tx := l }
    ∀ p ∈ [ReceivePhase.waitingIdle, .busIdle],
      ((s .joined p [holdTx]).bus.station ≠ .offline ∧ (s .joined p [holdTx]).bus.activity = .idle ∧
        (s .joined p [holdTx]).bus.phase = p ∧ (s .joined p [holdTx]).tx = holdTx :: [] ∧ holdTx.onBus = false) ∧
      (s .joined p []).tx = [] ∧ (s .listening p [holdTx]).bus.station = .listening := by
  decide +kernel

/-- The station contends with, or attempts, entries of each kind. -/
theorem witness_attempts :
    let edgeTx : TxEntry := { TxEntry.fresh .edge 8 none (.source 0) with onBus := true }
    ∀ a ∈ [TxActivity.contending 15, .attempting 15],
      ∀ e ∈ [holdTx, edgeTx, { holdTx with beenOnBus := false }, { holdTx with unwanted := true }],
        let s : State := sends joined a e
        s.bus.activity = a ∧ s.tx = { e with onBus := true } :: [] ∧ TxSafe s ∧ s.bus.station ≠ .conflict ∧
          e.kind ≠ .presence ∧ e.retries < s.bus.retryLimit.toNat ∧ s.bus.failures < 31 := by
  decide +kernel

/-- Entries that the statements on wins and conclusions speak of, by kind. -/
def edgeTx : TxEntry := TxEntry.fresh .edge 8 none (.source 0)
def clearTx : TxEntry := TxEntry.fresh .clear 9 (some (.clear 15)) (.source 0)
def releaseTx : TxEntry := TxEntry.fresh .release 9 (some (.release 3 2)) (.record 4)
def joinTx : TxEntry := TxEntry.fresh .join 0 (some (.join true 0x1234)) .beacon
def presenceTx : TxEntry := TxEntry.fresh .presence 0 none .beacon
def reportTx : TxEntry := TxEntry.fresh .report 0 none .responder

/-- The station contends with, or attempts, entries of each kind; the lists are in order. -/
theorem witness_attempts_by_kind :
    ∀ a ∈ [TxActivity.contending 15, .attempting 15],
      ∀ e ∈ [holdTx, { holdTx with beenOnBus := false }, { holdTx with unwanted := true }, edgeTx, clearTx, releaseTx,
          { releaseTx with unwanted := true }, joinTx, presenceTx, reportTx],
        let s : State := sends joined a e
        s.bus.activity = a ∧ s.tx = { e with onBus := true } :: [] ∧ TxSafe s ∧ s.bus.station ≠ .conflict := by
  decide +kernel

/-- What a first win finds: the reply of a REPORT, with data or refused, the record of a RELEASE, and the instance that
a HOLD carries or an earlier one. -/
theorem witness_first_wins :
    let s : State := { recorded (held (holdEntry .announcing)) .releaseListed with reply := some (reply .listed false) }
    s.reply = some (reply .listed false) ∧ (reply .listed false).answer = .data ∧
      (reply .listed false).index.toNat < itemRange (reply .listed false).item ∧ AcceptanceSafe s ∧
      ({ reply .listed false with answer := .refused 2 } : Reply).answer = .refused 2 ∧
      s.slot 4 = some (record 3 9 .releaseListed) ∧ (s.source 0).inst = 15 ∧ (14 : InstNo) ≠ (s.source 0).inst ∧
      holdTx.seq = some 4 ∧ holdTx.msg = some (.hold 15 false) := by
  decide +kernel

theorem witness_FailedAttemptIsRetried_present_peer :
    let s : State := { joined with roster := upd joined.roster 3 { look joined.roster 3 with state := .present } }
    (∃ a : Fin 32, (look s.roster a).state = .present) ∧ ∀ a : Fin 32, (look joined.roster a).state ≠ .present := by
  decide +kernel

theorem witness_DeliveryIsToldToTheSource :
    let s (x : SourceEntry) (e : TxEntry) : State := sends (held x) (.attempting 15) e
    let clearTx : TxEntry := TxEntry.fresh .clear 9 (some (.clear 15)) (.source 0)
    let edgeTx : TxEntry := TxEntry.fresh .edge 8 (some (.edge 1 .rise)) (.source 0)
    (TxSafe (s (holdEntry .announcing) holdTx) ∧ holdTx.producer = .source 0 ∧ holdTx.unwanted = false ∧
      holdTx.kind = .hold ∧ (holdEntry .announcing).dropNoted = false ∧ (holdEntry .announcing).quorum = 0 ∧
      ∃ a ∈ (holdEntry .announcing).required, a ∉ (holdEntry .announcing).received) ∧
      ({ holdEntry .announcing with quorum := 2, received := [6] } : SourceEntry).received.length < (2 : BitVec 3).toNat ∧
      ({ holdEntry .announcing with dropNoted := true } : SourceEntry).dropNoted = true ∧
      (TxSafe (s (edgeEntry .sending 2) edgeTx) ∧ edgeTx.producer = .source 0 ∧ edgeTx.kind = .edge) ∧
      (TxSafe (s (holdEntry .ending) clearTx) ∧ HoldsSafe (s (holdEntry .ending) clearTx) ∧ clearTx.kind = .clear ∧
        (holdEntry .ending).condition = false) := by
  decide +kernel

/-- A station with 30 failures, without a PRESENT peer and with one. -/
def unheard : State := { joined with bus := { joined.bus with failures := 30 } }
def heard : State :=
  { unheard with roster := upd joined.roster 3 { look joined.roster 3 with state := .present } }

/-- The commands that end an attempt for good, with and without a PRESENT peer, and with no retry left. -/
theorem witness_removals :
    let used : TxEntry := { holdTx with retries := 8 }
    (Removes unheard holdTx (.attemptConclusion true false) .delivered ∧
      Removes unheard holdTx (.attemptConclusion false false) .noAudience) ∧
      (Removes heard used (.attemptConclusion false false) .undelivered ∧
        Removes unheard used (.attemptConclusion true true) .undelivered ∧ Removes unheard used .bitError .undelivered ∧
        Removes unheard presenceTx .bitError .undelivered) ∧
      unheard.bus.failures + 1 < 32 := by
  refine ⟨⟨.inl ⟨rfl, rfl⟩, .inr (.inl ⟨rfl, rfl, ?_⟩)⟩, ⟨.inr (.inr ⟨rfl, .inr ?_, .inl ⟨rfl, ?_⟩⟩),
    .inr (.inr ⟨rfl, .inr ?_, .inr (.inl ⟨true, rfl⟩)⟩), .inr (.inr ⟨rfl, .inr ?_, .inr (.inr rfl)⟩),
    .inr (.inr ⟨rfl, .inl rfl, .inr (.inr rfl)⟩)⟩, ?_⟩ <;> decide +kernel

/-- The source entries that a conclusion finds: those of EDGE, HOLD and CLEAR in each case. -/
theorem witness_told_sources :
    let e (h : HoldState) (d c : Bool) : SourceEntry := { holdEntry h with dropNoted := d, condition := c }
    let s (h : HoldState) (c : Bool) : State := sends (held (e h false c)) (.attempting 15) clearTx
    (∀ d : Bool, (e .announcing d true).holdState = .announcing ∧ (e .announcing d true).dropNoted = d) ∧
      ((e .satisfied false true).holdState ≠ .announcing ∧ holdTx.unwanted = false) ∧
      (∀ c : Bool, TxSafe (s .ending c) ∧ HoldsSafe (s .ending c) ∧ ((s .ending c).source 0).holdState = .ending ∧
        ((s .ending c).source 0).condition = c) ∧
      ((holdEntry .announcing).quorum = 0 ∧ (∃ a ∈ (holdEntry .announcing).required, a ∉ (holdEntry .announcing).received) ∧
        ¬∃ a ∈ (holdEntry .announcing).required,
          a ∉ ({ holdEntry .announcing with received := [3] } : SourceEntry).received) ∧
      ∀ q ∈ some (reply .sending false), q.restart = false := by
  decide +kernel

theorem witness_ThirtyTwoFailuresWithdraw :
    let s : State := sends { joined with bus := { joined.bus with failures := 31 } } (.attempting 15) holdTx
    s.bus.activity = .attempting 15 ∧ s.tx = { holdTx with onBus := true } :: [] ∧ s.bus.failures = 31 ∧
      (holdTx.producer = .responder → ∀ r ∈ s.reply, r.restart = false) := by
  decide +kernel

theorem witness_ThirtyTwoFailuresWithdraw_cases :
    let b (w : Bool) : BusInterface := { joined.bus with failures := 31, safeOnWithdraw := w }
    let s (w : Bool) : State := sends { joined with bus := b w } (.attempting 15) holdTx
    ∀ w : Bool, TxSafe (s w) ∧ (s w).bus.failures = 31 ∧ (s w).bus.safeOnWithdraw = w ∧ holdTx.kind ≠ .presence ∧
      holdTx.retries < (s w).bus.retryLimit.toNat := by
  decide +kernel

/-- A list with an entry of every producer, for the flush. -/
theorem witness_flush :
    let s : State := { recorded (held (edgeEntry .sending 9)) .releaseListed with
      tx := [{ releaseTx with unwanted := false }, edgeTx, { holdTx with producer := .source 1 }, joinTx, reportTx,
        { releaseTx with producer := .record 5, unwanted := true }]
      reply := some (reply .listed false) }
    (s.tx.map TxEntry.producer).Nodup ∧ s.tx.any (fun e => e.kind = .edge ∧ e.producer = .source 0) = true ∧
      s.tx.any (fun e => e.kind = .edge ∧ e.producer = .source 1) = false ∧
      (∃ e ∈ s.tx, e.producer = .record 4 ∧ e.unwanted = false) ∧
      (∀ e ∈ s.tx, e.producer = .record 5 → e.unwanted = true) ∧
      s.tx.any (fun e => e.producer = .responder) = true ∧ ∃ e ∈ s.tx, e.kind = .join ∧ e.producer = .beacon := by
  decide +kernel

theorem witness_RestartFollowsItsReport :
    let e : TxEntry := TxEntry.fresh .report 0 none .responder
    let s (n : Nat) : State := sends { joined with reply := some (reply .sending true) } (.attempting 15) { e with retries := n }
    (s 0).bus.activity = .attempting 15 ∧ (s 0).reply = some (reply .sending true) ∧
      (reply .sending true).restart = true ∧ e.producer = .responder ∧ e.kind = .report ∧
      (∀ a : Fin 32, (look (s 0).roster a).state ≠ .present) ∧ (s 8).bus.retryLimit.toNat ≤ 8 := by
  decide +kernel

theorem witness_HoldOffExpiryMovesTheStation :
    let b (st : StationState) : BusInterface := { BusInterface.reset with station := st, holdOff := some 9 }
    (b .listening).holdOff = some 9 ∧ (b .listening).station = .listening ∧ (b .withdrawn).station = .withdrawn := by
  decide +kernel

theorem witness_FramesInErrorAreDiscarded :
    Receiving joined ∧ verdict badFrame.cells = .formatError ∧ verdict (holdFrame.cells.set 11 true) = .crcError := by
  decide +kernel

theorem witness_OwnAddressFrameEntersConflict :
    Receiving joined ∧ joined.bus.station ≠ .conflict ∧ Receiving (station .conflict) ∧
      (station .conflict).bus.station = .conflict ∧ joined.address = 5 ∧
      Frame.formatOk { standing := 15, sender := 5, seq := 0, channel := 9, msg := .clear 1 } = true := by
  decide +kernel

/-- A duplicate: the last sequence of station 3 is the frame's (boundary: also in CONFLICT). -/
theorem witness_duplicate :
    ∀ st ∈ [StationState.joined, .conflict],
      let s : State :=
        { station st with roster := upd joined.roster 3 { look joined.roster 3 with lastSeq := some peer.seq } }
      Receiving s ∧ peer.sender ≠ s.address ∧ ¬NewFrame s peer := by
  decide +kernel

theorem witness_RosterOnlyArrivals : (5 : BitVec 3).toNat < 6 ∧ (6 : Addr) ≠ joined.address := by
  decide +kernel

theorem witness_conflict :
    Receiving (station .conflict) ∧ peer.sender ≠ (station .conflict).address ∧ NewFrame (station .conflict) peer := by
  decide +kernel

theorem witness_PurgeRemovesTheSendersRecords :
    (recorded joined .acting).slot 4 = some (record 3 9 .acting) ∧ (record 3 9 .acting).sender = 3 ∧
      (record 3 9 .acting).sender ≠ 4 ∧ (recorded joined .acting).slot 5 = none := by
  decide +kernel

theorem witness_giveUp :
    let l : List TxEntry := [edgeTx]
    (∀ f ∈ l, f.producer ≠ .record 4) ∧ releaseTx.producer = .record 4 ∧ releaseTx.onBus = false ∧
      ({ releaseTx with onBus := true } : TxEntry).onBus = true := by
  decide +kernel

theorem witness_BeaconExpiryAgesTheRoster :
    let s : State := { joined with
      beacon := { Beacon.reset with timer := some 9 }
      roster := upd (upd joined.roster 3 { look joined.roster 3 with state := .present, silence := 1 }) 4
        { look joined.roster 4 with state := .present, silence := 2 } }
    s.beacon.timer = some 9 ∧ (look s.roster 3).state = .present ∧ (look s.roster 3).silence.toNat < 2 ∧
      (look s.roster 4).state = .present ∧ 2 ≤ (look s.roster 4).silence.toNat ∧ (look s.roster 6).state ≠ .present ∧
      (∀ j, s.slot j = none) ∧ ∀ i, (s.source i).waiveLost = false := by
  decide +kernel

/-- A beacon interval ends with a record and no waivers, and with waivers and no record. -/
theorem witness_BeaconExpiry_reports :
    let r (s : State) : State := { s with
      beacon := { Beacon.reset with timer := some 9 }
      roster := upd joined.roster 3 { look joined.roster 3 with state := .present, silence := 2 } }
    let w : State := r (held { holdEntry .awaiting with waiveLost := true })
    let p : State := r (recorded joined .acting)
    (w.beacon.timer = some 9 ∧ (∀ j, w.slot j = none) ∧ (w.source 0).waiveLost = true) ∧
      p.beacon.timer = some 9 ∧ (∀ i, (p.source i).waiveLost = false) ∧ p.slot 4 ≠ none := by
  decide +kernel

theorem witness_queries :
    (∀ r ∈ [reply .owed false, reply .listed false], r.state ≠ .sending) ∧ (reply .sending false).state = .sending ∧
      (31 : Byte).toNat < 32 ∧ ¬(32 : Byte).toNat < 32 ∧ 10 < (11 : Byte).toNat ∧ (1 : Byte) ≠ 0 ∧
      ({ joined with maintenance := some 3 } : State).maintenance = some peer.sender ∧ joined.maintenance = none ∧
      ({ joined with maintenance := some 4 } : State).maintenance = some 4 ∧ (4 : Addr) ≠ peer.sender := by
  decide +kernel

/-- A station that attempts the HOLD of its entry 0, with the conclusion waiting. -/
def concluding : State :=
  { sends (held (holdEntry .announcing)) (.attempting 15) holdTx with pending := [.attemptConclusion true false] }

/-- Every invariant holds of a state with a command waiting, and the step of that state is a next state. -/
theorem witness_invariants :
    (TxSafe concluding ∧ AdmissionSafe concluding ∧ FailuresSafe concluding ∧ RosterSafe concluding ∧
      DefaultsSafe concluding) ∧
      (CountersSafe concluding ∧ ForcedSafe concluding ∧ GeneratorsSafe concluding) ∧
      (ReleasesSafe concluding ∧ HoldsSafe concluding ∧ AcceptanceSafe concluding) ∧
      (after (step concluding)).isSome = true := by
  refine ⟨?_, ?_, ?_, ?_⟩ <;> decide +kernel

/-- A station whose edge-mode entry 0 sends its EDGE, with the conclusion waiting. -/
def concludingEdge : State :=
  { sends (held (edgeEntry .sending 2)) (.attempting 15) { edgeTx with beenOnBus := true, seq := some 4 } with
    pending := [.attemptConclusion true false] }

/-- The edge invariant holds in each edge state, and the step that concludes an EDGE is a next state. -/
theorem witness_edges :
    let e (st : EdgeState) (n : BitVec 4) : SourceEntry := { edgeEntry st n with nextCount := 0 }
    ((e .idle 0).EdgeFits ∧ (e .owed 1).EdgeFits ∧ (e .listed 15).EdgeFits ∧ (edgeEntry .sending 15).EdgeFits ∧
      (holdEntry .announcing).EdgeFits) ∧
      (TxSafe concludingEdge ∧ AdmissionSafe concludingEdge ∧ EdgesSafe concludingEdge ∧ EdgesSafe concluding) ∧
      (after (step concludingEdge)).isSome = true := by
  refine ⟨?_, ⟨?_, ?_, ⟨?_, ?_, ?_, ?_⟩, ⟨?_, ?_, ?_, ?_⟩⟩, ?_⟩ <;> decide +kernel

end Sys2Proof.Tests
end

section
/-! PROOF. The event counters (section 5.5): what COUNT does to a WRAP and to a STICK counter, and what RESET does.
A COUNT is fixed by three readings of the counter: the value after it, the number of TERMINAL events and the level
(`countBy_eq`). Each mode gives the three readings as lemmas about `Counter`, and the obligations put them in. -/

namespace Sys2Proof.Machine

/-! ## Writing a counter back -/

theorem upd_look_self {α : Type} {n : Nat} (v : Vector α n) (i : Fin n) : upd v i (look v i) = v := by
  simp [upd, look, Vector.get_eq_getElem]

/-- A counter written back as it was read leaves the state as it is. -/
@[simp] theorem State.setCounter_counter_self (s : State) (c : Fin 4) : s.setCounter c (s.counter c) = s := by
  simp only [State.setCounter, State.counter, upd_look_self]

/-! ## The at-terminal level (R9) -/

theorem Counter.atTerminal_eq_true_iff (k : Counter) : k.atTerminal = true ↔ k.value = k.terminal := by
  simp [Counter.atTerminal]

theorem Counter.atTerminal_eq_false_iff (k : Counter) : k.atTerminal = false ↔ k.value ≠ k.terminal := by
  simp [Counter.atTerminal]

/-- A value below the terminal keeps the level low. -/
theorem Counter.atTerminal_of_lt {k : Counter} (h : k.value.toNat < k.terminal.toNat) : k.atTerminal = false :=
  k.atTerminal_eq_false_iff.2 fun heq => by simp [heq] at h

/-! ## A WRAP counter under COUNT (R104) -/

theorem Counter.terminals_wrap {k : Counter} (hm : k.stick = false) (n : Nat) :
    k.terminals n = (k.value.toNat + n) / k.terminal.toNat := by
  simp [Counter.terminals, hm]

/-- The remainder is below the terminal, so the 16 bits of the value hold it. -/
theorem Counter.counted_wrap_toNat {k : Counter} (hm : k.stick = false) (hT : 1 ≤ k.terminal.toNat) (n : Nat) :
    (k.counted n).toNat = (k.value.toNat + n) % k.terminal.toNat := by
  have hlt : (k.value.toNat + n) % k.terminal.toNat < 2 ^ 16 := (Nat.mod_lt _ hT).trans k.terminal.isLt
  simp only [Counter.counted, hm, Bool.false_eq_true, if_false, BitVec.toNat_ofNat, Nat.mod_eq_of_lt hlt]

/-! ## A STICK counter under COUNT (R105) -/

section Stick
variable {k : Counter} {n : Nat} (hm : k.stick = true)
include hm

theorem Counter.counted_stick_below (h : k.value.toNat + n < k.terminal.toNat) :
    k.counted n = k.value + BitVec.ofNat 16 n := by
  simp only [Counter.counted, hm, if_true, Nat.min_eq_left h.le, BitVec.ofNat_add, BitVec.ofNat_toNat,
    BitVec.setWidth_eq]

theorem Counter.counted_stick_reaching (h : k.terminal.toNat ≤ k.value.toNat + n) : k.counted n = k.terminal := by
  simp only [Counter.counted, hm, if_true, Nat.min_eq_right h, BitVec.ofNat_toNat, BitVec.setWidth_eq]

theorem Counter.terminals_stick_below (h : k.value.toNat + n < k.terminal.toNat) : k.terminals n = 0 := by
  simp [Counter.terminals, hm, h]

theorem Counter.terminals_stick_crossing (hlt : k.value.toNat < k.terminal.toNat)
    (h : k.terminal.toNat ≤ k.value.toNat + n) : k.terminals n = 1 := by
  simp [Counter.terminals, hm, hlt, h]

theorem Counter.terminals_stick_at_terminal (h : k.value = k.terminal) : k.terminals n = 0 := by
  simp [Counter.terminals, hm, h]

end Stick

/-! ## COUNT and RESET on the state -/

theorem terminalEvents_zero (s : State) (c : Fin 4) : s.terminalEvents c 0 = s := rfl

theorem terminalEvents_one (s : State) (c : Fin 4) : s.terminalEvents c 1 = s.presentEdge (.counter c) .rise := rfl

/-- A COUNT by its three readings: the value after it, the number of TERMINAL events and the level. -/
theorem countBy_eq {s : State} {c : Fin 4} {n q : Nat} {v : BitVec 16} {b : Bool}
    (hv : (s.counter c).counted n = v) (hq : (s.counter c).terminals n = q)
    (hl : ({ s.counter c with value := v } : Counter).atTerminal = b) :
    s.countBy c n =
      ((s.setCounter c { s.counter c with value := v }).terminalEvents c q).presentLevel (.counter c) b := by
  subst hv hq hl
  rfl

/-- A COUNT at a STICK counter whose sum stays below the terminal (R105, first case). -/
theorem countBy_stick_below {s : State} {c : Fin 4} {n : Nat} (hm : (s.counter c).stick = true)
    (h : (s.counter c).value.toNat + n < (s.counter c).terminal.toNat) :
    s.countBy c n =
      (s.setCounter c { s.counter c with value := (s.counter c).value + BitVec.ofNat 16 n }).presentLevel
        (.counter c) false := by
  have hlow : ({ s.counter c with value := (s.counter c).value + BitVec.ofNat 16 n } : Counter).atTerminal = false := by
    apply Counter.atTerminal_of_lt
    simp only [BitVec.toNat_add, BitVec.toNat_ofNat]
    omega
  rw [countBy_eq (Counter.counted_stick_below hm h) (Counter.terminals_stick_below hm h) hlow, terminalEvents_zero]

/-- A COUNT that brings a STICK counter to its terminal (R105, second case). -/
theorem countBy_stick_crossing {s : State} {c : Fin 4} {n : Nat} (hm : (s.counter c).stick = true)
    (hlt : (s.counter c).value.toNat < (s.counter c).terminal.toNat)
    (h : (s.counter c).terminal.toNat ≤ (s.counter c).value.toNat + n) :
    s.countBy c n =
      ((s.setCounter c { s.counter c with value := (s.counter c).terminal }).presentEdge (.counter c)
        .rise).presentLevel (.counter c) true := by
  rw [countBy_eq (Counter.counted_stick_reaching hm h) (Counter.terminals_stick_crossing hm hlt h)
    ((Counter.atTerminal_eq_true_iff _).2 rfl), terminalEvents_one]

/-- A COUNT at a STICK counter that stands at its terminal changes no counter (R105, third case). -/
theorem countBy_stick_at_terminal {s : State} {c : Fin 4} (n : Nat) (hm : (s.counter c).stick = true)
    (h : (s.counter c).value = (s.counter c).terminal) :
    s.countBy c n = s.presentLevel (.counter c) true := by
  have hv : (s.counter c).counted n = (s.counter c).value :=
    (Counter.counted_stick_reaching hm (h ▸ Nat.le_add_right _ _)).trans h.symm
  rw [countBy_eq hv (Counter.terminals_stick_at_terminal hm h) ((Counter.atTerminal_eq_true_iff _).2 h),
    terminalEvents_zero, State.setCounter_counter_self]

/-- RESET presents the level low: the terminal is at least 1, so the value 0 lies below it (R106). -/
theorem resetCounter_eq {s : State} {c : Fin 4} (hT : 1 ≤ (s.counter c).terminal.toNat) :
    s.resetCounter c = (s.setCounter c { s.counter c with value := 0 }).presentLevel (.counter c) false := by
  have hlow : ({ s.counter c with value := 0 } : Counter).atTerminal = false := Counter.atTerminal_of_lt hT
  simp only [State.resetCounter, hlow]

/-! ## The obligations -/

/-- Settles O25: the value after the COUNT is the remainder of the sum by the terminal, the crossings are the quotient,
and a remainder is below its divisor. -/
theorem countWrapsAtTheTerminal : Obligations.CountWrapsAtTheTerminal := by
  intro s c n k hwrap hT _ q
  have hval : (k.counted n).toNat = (k.value.toNat + n) % k.terminal.toNat := Counter.counted_wrap_toNat hwrap hT n
  have hlt : (k.counted n).toNat < k.terminal.toNat := hval ▸ Nat.mod_lt _ hT
  refine ⟨k.counted n, ?_, hlt, countBy_eq rfl (Counter.terminals_wrap hwrap n) (Counter.atTerminal_of_lt hlt)⟩
  rw [hval, Nat.mul_comm]
  exact Nat.mod_add_div _ _

/-- Settles O26, by the three cases of R105 and by R106. -/
theorem countSticksAtTheTerminalAndResetClears : Obligations.CountSticksAtTheTerminalAndResetClears := by
  intro s c n k hT hle
  refine ⟨fun hstick => ⟨countBy_stick_below hstick, fun hne hreach => ?_, countBy_stick_at_terminal n hstick⟩,
    resetCounter_eq hT⟩
  have hlt : k.value.toNat < k.terminal.toNat := lt_of_le_of_ne hle fun heq => hne (BitVec.eq_of_toNat_eq heq)
  exact countBy_stick_crossing hstick hlt hreach

end Sys2Proof.Machine
end

section
/-! PROOF. What a step can do, said once: a step is a run of effects, each with the guard under which the model comes
to it. An invariant is then proved effect by effect, and no proof about steps unfolds the step again. -/

namespace Sys2Proof.Machine

/-! ## Effects of actions -/

/-- One change at the source table, the fault set or the tallies. -/
inductive SourceEffect : State → State → Prop
  | tallied (s : State) (t : TallyName) : SourceEffect s (s.count t)
  | latched (s : State) (k : FaultKind) (hk : k ≠ .orphaned) : SourceEffect s (s.latch k)
  | unlatched (s : State) (k : FaultKind) (hk : k ≠ .orphaned) : SourceEffect s (s.unlatch k)
  | edge (s : State) (i : Fin 16) (o : Origin) (d : Direction) (h : (s.source i).mode.counts o d = true) :
      SourceEffect s (s.takeEdge i d)
  | asserts (s : State) (i : Fin 16) (h : (s.source i).isHold = true) : SourceEffect s (s.conditionAsserts i)
  | drops (s : State) (i : Fin 16) (h : (s.source i).isHold = true) : SourceEffect s (s.conditionDrops i)
  | release (s : State) (i : Fin 16) (a : Addr) (k : InstNo) (h : (s.source i).isHold = true) (ha : a ≠ s.address) :
      SourceEffect s (s.releaseAt i a k)
  | waiver (s : State) (i : Fin 16) (a : Addr) : SourceEffect s (s.waiveAt i a)
  | releaseExpiry (s : State) (i : Fin 16) (h : (s.source i).releaseTimer ≠ none) : SourceEffect s (s.releaseExpired i)
  | repeatExpiry (s : State) (i : Fin 16) (h : (s.source i).repeatTimer ≠ none) : SourceEffect s (s.startInst i true)

/-- A generator with its run ended. -/
def Generator.ended (e : Generator) : Generator :=
  { e with phase := .idle, timer := none, shadowed := false, pendingTrigger := false, remaining := .pulses 0 }

/-- One change at the generators and the lines. -/
inductive GenEffect : State → State → Prop
  | starts (s : State) (g : Fin 8) (h : (s.gen g).phase = .idle) : GenEffect s (s.startRun g)
  | ends (s : State) (g : Fin 8) (h : (s.gen g).phase ≠ .idle) : GenEffect s (s.endRun g)
  | holdsTrigger (s : State) (g : Fin 8) (h : (s.gen g).phase ≠ .idle) (hp : (s.gen g).policy = .stack) :
      GenEffect s (s.setGen g { s.gen g with pendingTrigger := true })
  | selects (s : State) (g : Fin 8) (p : Fin 16) : GenEffect s (s.select g p)
  | applies (s : State) (g : Fin 8) : GenEffect s (s.applyPending g)
  | pulses (s : State) (g : Fin 8) (h : (s.gen g).phase = .delay ∨ (s.gen g).phase = .gap) : GenEffect s (s.startPulse g)
  | pauses (s : State) (g : Fin 8) (r : Remaining) (h : (s.gen g).phase = .pulse) (hr : r ≠ .pulses 0) :
      GenEffect s ((s.dropClaim g).startGap g r)
  | completes (s : State) (g : Fin 8) (h : (s.gen g).phase = .pulse) :
      GenEffect s ((s.dropClaim g).setGen g (s.gen g).ended)
  | reports (s : State) (g : Fin 8) : GenEffect s (s.idleReport g)
  | static (s : State) (o : Fin 8) (b : Bool) : GenEffect s (s.setStatic o b)

/-- One change at the counters, the group enables and the acceptance table. -/
inductive TableEffect : State → State → Prop
  | counts (s : State) (c : Fin 4) (n : Nat) :
      TableEffect s (s.setCounter c { s.counter c with value := (s.counter c).counted n })
  | resets (s : State) (c : Fin 4) : TableEffect s (s.setCounter c { s.counter c with value := 0 })
  | group (s : State) (m : Fin 4) (b : Bool) : TableEffect s (s.setGroup m b)
  | hold (s : State) (a : Addr) (ch : Channel) (k : InstNo) (snap : List (Fin 32)) (ha : a ≠ s.address) :
      TableEffect s (s.takeHold a ch k snap).1
  | duty (s : State) (j : Fin 8) (k : Fin 32) : TableEffect s (s.dutyRan j k)
  | tests (s : State) (j : Fin 8) : TableEffect s (s.testRecord j)
  | removes (s : State) (j : Fin 8) : TableEffect s (s.removeRecord j)

/-- One change on the action side of the station. -/
inductive ActionEffect : State → State → Prop
  | source {s t : State} (h : SourceEffect s t) : ActionEffect s t
  | gen {s t : State} (h : GenEffect s t) : ActionEffect s t
  | table {s t : State} (h : TableEffect s t) : ActionEffect s t

/-- A run of changes on the action side. -/
abbrev Actions : State → State → Prop := Relation.ReflTransGen ActionEffect

/-! ### The side on which an effect works -/

theorem countTimes_side (s : State) (t : TallyName) (n : Nat) : SourceSide s (s.countTimes t n) := by
  induction n generalizing s with
  | zero => exact SourceSide.refl _
  | succ n ih => exact (count_side s t).trans (ih _)

theorem SourceEffect.side {s t : State} (h : SourceEffect s t) : SourceSide s t := by
  cases h with
  | tallied => exact count_side _ _
  | latched => exact latch_side _ _
  | unlatched => exact unlatch_side _ _
  | edge => exact takeEdge_side _ _ _
  | asserts => exact conditionAsserts_side _ _
  | drops => exact conditionDrops_side _ _
  | release => exact releaseAt_side _ _ _ _
  | waiver => exact waiveAt_side _ _ _
  | releaseExpiry => exact releaseExpired_side _ _
  | repeatExpiry => exact startInst_side _ _ _

theorem GenEffect.side {s t : State} (h : GenEffect s t) : GenSide s t := by
  cases h with
  | starts => exact startRun_side _ _
  | ends => exact endRun_side _ _
  | holdsTrigger => exact setGen_side _ _ _
  | selects => exact select_side _ _ _
  | applies => exact applyPending_side _ _
  | pulses => exact startPulse_side _ _
  | pauses => exact (dropClaim_side _ _).trans (startGap_side _ _ _)
  | completes => exact (dropClaim_side _ _).trans (setGen_side _ _ _)
  | reports => exact idleReport_side _ _
  | static => exact setStatic_side _ _ _

theorem TableEffect.side {s t : State} (h : TableEffect s t) : ActionSide s t := by
  cases h with
  | counts => exact setCounter_side _ _ _
  | resets => exact setCounter_side _ _ _
  | group => exact setGroup_side _ _ _
  | hold => exact takeHold_side _ _ _ _ _
  | duty => exact dutyRan_side _ _ _
  | tests => exact testRecord_side _ _
  | removes => exact removeRecord_side _ _

theorem ActionEffect.side {s t : State} (h : ActionEffect s t) : ActionSide s t := by
  cases h with
  | source h => exact h.side.gen.action
  | gen h => exact h.side.action
  | table h => exact h.side

theorem Actions.side {s t : State} (h : Actions s t) : ActionSide s t := by
  induction h with
  | refl => exact ActionSide.refl _
  | tail _ h ih => exact ih.trans h.side

theorem Actions.source {s t : State} (h : SourceEffect s t) : Actions s t := .single (.source h)
theorem Actions.gen {s t : State} (h : GenEffect s t) : Actions s t := .single (.gen h)
theorem Actions.table {s t : State} (h : TableEffect s t) : Actions s t := .single (.table h)

/-- A fold of runs is a run. -/
theorem Actions.fold {α : Type} (f : State → α → State) (h : ∀ s a, Actions s (f s a)) (l : List α) (s : State) :
    Actions s (l.foldl f s) :=
  foldl_rel (fun _ => .refl) (fun h k => h.trans k) f h l s

theorem Actions.each {n : Nat} (f : Fin n → State → State) (h : ∀ i s, Actions s (f i s)) (s : State) :
    Actions s (forEach f s) :=
  forEach_rel (fun _ => .refl) (fun h k => h.trans k) f h s

/-! ### Operations as runs -/

theorem presentEdge_run (s : State) (o : Origin) (d : Direction) : Actions s (s.presentEdge o d) := by
  refine Actions.each _ (fun i t => ?_) s
  split
  · next h =>
    simp only [Bool.and_eq_true] at h
    exact .source (.edge t i o d h.2)
  · exact .refl

theorem presentLevel_run (s : State) (o : Origin) (b : Bool) : Actions s (s.presentLevel o b) := by
  refine Actions.each _ (fun i t => ?_) s
  split
  · next h =>
    simp only [Bool.and_eq_true] at h
    unfold State.setCondition
    split
    · exact .refl
    · split
      · exact .source (.asserts t i h.2)
      · exact .source (.drops t i h.2)
  · exact .refl

theorem presentBusy_run (s : State) (g : Fin 8) : Actions s (s.presentBusy g) := presentLevel_run _ _ _

@[simp] theorem dropClaim_gens (s : State) (g : Fin 8) : (s.dropClaim g).gens = s.gens := by
  unfold State.dropClaim State.releaseLine
  split
  · rfl
  · split <;> rfl

@[simp] theorem dropClaim_gen (s : State) (g h : Fin 8) : (s.dropClaim g).gen h = s.gen h :=
  congrArg (look · h) (dropClaim_gens s g)

/-- A source side change leaves the generators. -/
theorem SourceSide.gen_eq {s t : State} (h : SourceSide s t) (g : Fin 8) : t.gen g = s.gen g := by
  obtain ⟨_, _, _, _, rfl⟩ := h
  rfl

@[simp] theorem idleReport_gen (s : State) (g h : Fin 8) : (s.idleReport g).gen h = s.gen h := rfl

/-- A run that is ended leaves the generator idle. -/
theorem endRun_gen (s : State) (g : Fin 8) : (s.endRun g).gen g = (s.gen g).ended := by
  have h : (s.endRun g).gen g = ((s.dropClaim g).gen g).ended := State.gen_setGen_self _ _ _
  rw [h, dropClaim_gen]

theorem trigger_run (s : State) (g : Fin 8) : Actions s (s.trigger g) := by
  unfold State.trigger
  dsimp only
  split
  · next h => exact .gen (.starts s g h)
  · next h =>
    split
    · exact .source (.tallied s .missedTriggers)
    · exact (Actions.gen (.ends s g h)).tail (.gen (.starts _ g (by rw [endRun_gen]; rfl)))
    · next hp =>
      split
      · exact .source (.tallied s .missedTriggers)
      · exact .gen (.holdsTrigger s g h hp)

theorem triggers_run (s : State) (g : Fin 8) (n : Nat) : Actions s (s.triggers g n) := by
  induction n generalizing s with
  | zero => exact .refl
  | succ n ih => exact (trigger_run s g).trans (ih _)

theorem fire_run (s : State) (g : Fin 8) (n : Nat) : Actions s (s.fire g n) :=
  (triggers_run s g _).trans (presentBusy_run _ g)

theorem stopGen_run (s : State) (g : Fin 8) : Actions s (s.stopGen g) := by
  unfold State.stopGen
  split
  · exact .refl
  · next h => exact (Actions.gen (.ends s g h)).trans (presentBusy_run _ g)

theorem stopAll_run (s : State) : Actions s s.stopAll := Actions.each _ (fun g t => stopGen_run t g) s

theorem delayEnds_run {s : State} {g : Fin 8} (h : (s.gen g).phase = .delay) : Actions s (s.delayEnds g) :=
  .gen (.pulses s g (.inl h))

theorem applyPending_gen_phase (s : State) (g : Fin 8) : ((s.applyPending g).gen g).phase = (s.gen g).phase := by
  unfold State.applyPending
  split
  · rfl
  · simp [State.activate]

theorem gapEnds_run {s : State} {g : Fin 8} (h : (s.gen g).phase = .gap) : Actions s (s.gapEnds g) :=
  (Actions.gen (.applies s g)).tail (.gen (.pulses _ g (.inr (by rw [applyPending_gen_phase, h]))))

/-- The end of the last pulse: the run is complete, COMPLETE is presented, the entry into IDLE is reported, and a held
trigger starts the next run (R78, R83). -/
theorem completeRun_run {s : State} {g : Fin 8} (h : (s.gen g).phase = .pulse) :
    Actions s ((s.dropClaim g).completeRun g) := by
  have hidle : Actions s ((s.dropClaim g).setGen g (s.gen g).ended) := .gen (.completes s g h)
  have hedge := presentEdge_run ((s.dropClaim g).setGen g (s.gen g).ended) (.generator g) .rise
  have hphase := (presentEdge_side ((s.dropClaim g).setGen g (s.gen g).ended) (.generator g) .rise).gen_eq g
  have hreport := (hidle.trans hedge).tail (.gen (.reports _ g))
  unfold State.completeRun
  rw [dropClaim_gen]
  dsimp only
  split
  · refine hreport.tail (.gen (.starts _ g ?_))
    rw [idleReport_gen, hphase, State.gen_setGen_self]
    rfl
  · exact hreport

theorem pulseEnds_run {s : State} {g : Fin 8} (h : (s.gen g).phase = .pulse) : Actions s (s.pulseEnds g) := by
  unfold State.pulseEnds
  dsimp only
  refine Relation.ReflTransGen.trans ?_ (presentBusy_run _ g)
  split
  · exact Actions.gen (.pauses s g .unending h (by simp))
  · next n _ =>
    split
    · next hn =>
      refine Actions.gen (.pauses s g _ h fun h0 => ?_)
      have h1 : n - 1 = 0 := by simpa using h0
      bv_omega
    · exact completeRun_run h

theorem terminalEvents_run (s : State) (c : Fin 4) (n : Nat) : Actions s (s.terminalEvents c n) := by
  induction n generalizing s with
  | zero => exact .refl
  | succ n ih =>
    rw [terminalEvents_succ]
    exact (presentEdge_run s _ _).trans (ih _)

theorem countBy_run (s : State) (c : Fin 4) (n : Nat) : Actions s (s.countBy c n) :=
  ((Actions.table (.counts s c n)).trans (terminalEvents_run _ c _)).trans (presentLevel_run _ _ _)

theorem resetCounter_run (s : State) (c : Fin 4) : Actions s (s.resetCounter c) :=
  (Actions.table (.resets s c)).trans (presentLevel_run _ _ _)

theorem toggleStatic_run (s : State) (o : Fin 8) (n : Nat) : Actions s (s.toggleStatic o n) := by
  unfold State.toggleStatic
  split
  · exact .gen (.static s o _)
  · exact .refl

theorem runAction_run (s : State) (a : Action) (p : Option (Fin 16)) (n : Nat) : Actions s (s.runAction a p n) := by
  unfold State.runAction
  split
  · exact .refl
  · next t _ =>
    split
    case h_1 => exact fire_run s t n
    case h_2 => exact stopGen_run s t
    case h_3 =>
      split
      · exact .gen (.selects s t _)
      · exact .refl
    case h_4 => exact .gen (.static s t true)
    case h_5 => exact .gen (.static s t false)
    case h_6 => exact toggleStatic_run s t n
    case h_7 =>
      split
      · exact countBy_run s _ n
      · exact .refl
    case h_8 =>
      split
      · exact resetCounter_run s _
      · exact .refl
    case h_9 =>
      split
      · exact .table (.group s _ true)
      · exact .refl
    case h_10 =>
      split
      · exact .table (.group s _ false)
      · exact .refl
    case h_11 => exact .refl
    case h_12 => exact .refl

theorem act_run (s : State) (k : Fin 32) (n : Nat) : Actions s (s.act k n) := runAction_run _ _ _ _
theorem clearAct_run (s : State) (k : Fin 32) : Actions s (s.clearAct k) := runAction_run _ _ _ _

theorem dispatchEdge_run (s : State) (a : Addr) (ch : Channel) (n : Nat) : Actions s (s.dispatchEdge a ch n) := by
  unfold State.dispatchEdge
  split
  · exact .refl
  · exact Actions.fold _ (fun t k => act_run t k n) _ s

theorem holdStep_run (re : Bool) (r : Option (Fin 8)) (s : State) (k : Fin 32) :
    Actions s (State.holdStep re r s k) := by
  unfold State.holdStep
  split
  · split
    · exact (act_run s k 1).tail (.table (.duty _ _ k))
    · exact .refl
  · split
    · exact .refl
    · exact act_run s k 1

theorem dispatchHold_run (s : State) {a : Addr} (ch : Channel) (k : InstNo) (re : Bool) (ha : a ≠ s.address) :
    Actions s (s.dispatchHold a ch k re) := by
  unfold State.dispatchHold
  dsimp only
  split
  · exact .refl
  · have hrun : ∀ r, Actions s ((s.snapshot .hold a ch).foldl (State.holdStep re r)
        (s.takeHold a ch k (s.snapshot .hold a ch)).1) := fun r =>
      (Actions.table (.hold s a ch k _ ha)).trans (Actions.fold _ (fun t k => holdStep_run re r t k) _ _)
    split
    · exact (hrun _).tail (.table (.tests _ _))
    · exact hrun _

theorem selfHold_run (s : State) (ch : Channel) (re : Bool) : Actions s (s.selfHold ch re) := by
  unfold State.selfHold
  split
  · exact .refl
  · split
    · exact .refl
    · exact Actions.fold _ (fun t k => act_run t k 1) _ s

theorem dispatchClear_run (s : State) (a : Addr) (ch : Channel) : Actions s (s.dispatchClear a ch) := by
  unfold State.dispatchClear
  split
  · exact .refl
  · exact Actions.fold _ (fun t k => clearAct_run t k) _ s

theorem closeRecord_run (s : State) (a : Addr) (ch : Channel) (k : InstNo) : Actions s (s.closeRecord a ch k) := by
  unfold State.closeRecord
  split
  · exact .refl
  · split
    · exact .refl
    · split
      · exact .table (.removes s _)
      · exact .refl

theorem takeClear_run (s : State) (a : Addr) (ch : Channel) (k : InstNo) : Actions s (s.takeClear a ch k) := by
  unfold State.takeClear
  split
  · exact .refl
  · exact (dispatchClear_run s a ch).trans (closeRecord_run _ a ch k)

theorem purgeActions_run (s : State) (d : List Duty) : Actions s (s.purgeActions d) := by
  unfold State.purgeActions
  split
  · exact .refl
  · exact Actions.fold _ (fun t (w : Duty) => clearAct_run t w.sub) d s

theorem purgeSlot_run (s : State) (a : Addr) (j : Fin 8) : Actions s (s.purgeSlot a j) := by
  unfold State.purgeSlot
  split
  · exact .refl
  · split
    · exact (purgeActions_run s _).tail (.table (.removes _ j))
    · exact .refl

theorem purge_run (s : State) (a : Addr) : Actions s (s.purge a) :=
  Actions.each _ (fun j t => purgeSlot_run t a j) s

theorem waive_run (s : State) (a : Addr) : Actions s (s.waive a) :=
  Actions.each _ (fun i t => .source (.waiver t i a)) s

theorem takeRelease_run (s : State) {a : Addr} (ch : Channel) (owner : Addr) (k : InstNo) (ha : a ≠ s.address) :
    Actions s (s.takeRelease a ch owner k) := by
  unfold State.takeRelease
  split
  · exact .refl
  · split
    · exact .source (.tallied s .staleReleases)
    · next i hi =>
      have hfound := List.find?_some hi
      simp only [Bool.and_eq_true] at hfound
      exact .source (.release s i a k hfound.1 ha)

end Sys2Proof.Machine
end

section
/-! PROOF. What a step can do, continued: the effects on the whole station, and the step as a run of them. -/

namespace Sys2Proof.Machine

/-- The station state and the forced-safe flags that follow it (R101), without the stops of an entry into a forced-safe
condition. -/
def State.moveTo (s : State) (st : StationState) : State :=
  (s.setBus { s.bus with station := st }).setForced (forcedIn st s.bus.safeOnWithdraw)

theorem enterState_eq (s : State) (st : StationState) :
    s.enterState st = if forcedIn st s.bus.safeOnWithdraw then (s.moveTo st).stopAll else s.moveTo st := rfl

/-- The loader has ended: READY or FAILED. -/
abbrev LoaderPhase.Ended (p : LoaderPhase) : Prop := p = .ready ∨ p = .failed

/-- One change of the station, in a command that began under the assumption `A` (which is AdmissionSafe of the state then,
and enters some guards). -/
inductive Effect (A : Prop) : State → State → Prop
  | action {s t : State} (h : ActionEffect s t) : Effect A s t
  | outside (s : State) (time : Nat) (pins : Vector Bool 16) (inputs : Vector InputLine 16) (freeCount : Nat)
      (pending : List Instr) :
      Effect A s { s with time := time, pins := pins, inputs := inputs, freeCount := freeCount, pending := pending }
  | bus (s : State) (standing : BitVec 4) (failures : Nat) (fresh : Bool) (holdOff : Timer) (phase : ReceivePhase)
      (stopped : Bool) (answer : SlotAnswer) (h : s.bus.failures < 32 → failures < 32) :
      Effect A s (s.setBus { s.bus with
        standing := standing, failures := failures, fresh := fresh, holdOff := holdOff, phase := phase,
        stopped := stopped, slotAnswer := answer })
  | beacon (s : State) (b : Beacon) : Effect A s (s.setBeacon b)
  | reply (s : State) (r : Option Reply) : Effect A s (s.setReply r)
  | withdrawsReport (s : State) : Effect A s (s.withdrawEntry .responder)
  | roster (s : State) (a : Fin 32) (e : RosterEntry) (h : e.state = (look s.roster a).state) :
      Effect A s (s.setRoster a e)
  | hears (s : State) (f : Frame) (h : f.sender ≠ s.address) : Effect A s (s.hear f)
  | ages (s : State) : Effect A s s.ageRoster
  | faultReset (s : State) : Effect A s s.faultResetNow
  | admits (s : State) : Effect A s s.admitOwed
  | offers (s : State) : Effect A s s.offerHead
  | wins (s : State) (st : BitVec 4) (h : s.bus.activity = .contending st) : Effect A s (s.won st)
  | loses (s : State) (st : BitVec 4) (h : s.bus.activity = .contending st) : Effect A s s.lost
  | concludes (s : State) (st : BitVec 4) (e : TxEntry) (rest : List TxEntry) (a : Attempt)
      (h : s.bus.activity = .attempting st) (ht : s.tx = e :: rest) :
      Effect A s (((s.setBus { s.bus with activity := .idle }).countAttempt a).headConcluded e rest a)
  | quiets (s : State) (ht : s.tx = []) : Effect A s (s.setBus { s.bus with activity := .idle })
  | marks (s : State) (p : Producer) :
      Effect A s (s.setTx (s.tx.map (fun f => if f.producer = p then { f with selfDelivered := true } else f)))
  | flushes (s : State) (h : s.bus.activity = .idle) : Effect A s s.flush
  | moves (s : State) (st : StationState) (htx : A → st ≠ .joining → st ≠ .joined → s.tx = [])
      (h : A → s.bus.station ≠ .offline ∨ s.loader.phase.Ended) : Effect A s (s.moveTo st)
  | restarts (s : State) (adr : Addr) (rate : BitVec 2) (time : Nat) (q : Seq) : Effect A s (s.cleared adr rate time q)
  | loads (s : State) (l : Loader) (h : l.phase = s.loader.phase ∨ ¬s.loader.phase.Ended ∧ l.phase ≠ .ready) :
      Effect A s (s.setLoader l)
  | readies (s : State) (img : List Byte) (hv : validate img = none) (hl : ¬s.loader.phase.Ended)
      (hA : A → s.tx = [] ∧ s.bus.station = .offline) :
      Effect A s (((s.setLoader { s.loader with phase := .ready }).configure img).goOnline (imageSignature img))
  | evaluates (s : State) (i : Fin 16) (h : (s.source i).holdState = .quiet) : Effect A s (s.evaluateCondition i)

/-- A run of changes in a command that began under the assumption `A`. -/
abbrev Run (A : Prop) : State → State → Prop := Relation.ReflTransGen (Effect A)

variable {A : Prop}

theorem Run.one {s t : State} (h : Effect A s t) : Run A s t := .single h

theorem Actions.run {s t : State} (h : Actions s t) : Run A s t := by
  induction h with
  | refl => exact .refl
  | tail _ h ih => exact ih.tail (.action h)

theorem SourceEffect.run {s t : State} (h : SourceEffect s t) : Run A s t := .one (.action (.source h))

/-- An invariant of the effects is one of the runs. -/
theorem Run.keeps {P : State → Prop} (h : ∀ s t, Effect A s t → P s → P t) {s t : State} (hr : Run A s t) (hs : P s) :
    P t := by
  induction hr with
  | refl => exact hs
  | tail _ he ih => exact h _ _ he ih

/-! ## Changes that an effect names by its fields -/

theorem setTime_run (s : State) (n : Nat) : Run A s (s.setTime n) :=
  .one (.outside s n s.pins s.inputs s.freeCount s.pending)
theorem setPin_run (s : State) (n : Fin 16) (b : Bool) : Run A s (s.setPin n b) :=
  .one (.outside s s.time (upd s.pins n b) s.inputs s.freeCount s.pending)
theorem setInput_run (s : State) (n : Fin 16) (l : InputLine) : Run A s (s.setInput n l) :=
  .one (.outside s s.time s.pins (upd s.inputs n l) s.freeCount s.pending)
theorem setFreeCount_run (s : State) (n : Nat) : Run A s { s with freeCount := n } :=
  .one (.outside s s.time s.pins s.inputs n s.pending)

theorem reach_run (s : State) (t : Timer) : Run A s (s.reach t) := by
  unfold State.reach
  split
  · exact .refl
  · exact setTime_run s _

@[simp] theorem reach_source (s : State) (t : Timer) (i : Fin 16) : (s.reach t).source i = s.source i := by
  cases t <;> rfl
@[simp] theorem reach_gen (s : State) (t : Timer) (g : Fin 8) : (s.reach t).gen g = s.gen g := by
  cases t <;> rfl
@[simp] theorem reach_bus (s : State) (t : Timer) : (s.reach t).bus = s.bus := by
  cases t <;> rfl
@[simp] theorem reach_tx (s : State) (t : Timer) : (s.reach t).tx = s.tx := by
  cases t <;> rfl
@[simp] theorem reach_loader (s : State) (t : Timer) : (s.reach t).loader = s.loader := by
  cases t <;> rfl

/-! ## Admission and the station state -/

theorem offerIfIdle_run (s : State) : Run A s s.offerIfIdle := by
  unfold State.offerIfIdle
  split
  · exact .one (.offers s)
  · exact .refl

theorem settle_run (s : State) : Run A s s.settle := (Run.one (.admits s)).trans (offerIfIdle_run _)

theorem Run.settled {s t : State} (h : Run A s t) : Run A s t.settle := h.trans (settle_run t)

theorem enterState_run {s : State} {st : StationState} (htx : A → st ≠ .joining → st ≠ .joined → s.tx = [])
    (h : A → s.bus.station ≠ .offline ∨ s.loader.phase.Ended) : Run A s (s.enterState st) := by
  rw [enterState_eq]
  split
  · exact (Run.one (.moves s st htx h)).trans (stopAll_run _).run
  · exact .one (.moves s st htx h)

theorem tellFlushed_bus_tx (s : State) (e : TxEntry) : (s.tellFlushed e).bus = s.bus ∧ (s.tellFlushed e).tx = s.tx := by
  have hcount : ∀ (t : State) (n : Nat), (t.countTimes .lostEdges n).bus = t.bus ∧ (t.countTimes .lostEdges n).tx = t.tx := by
    intro t n
    induction n generalizing t with
    | zero => exact ⟨rfl, rfl⟩
    | succ n ih => exact ih (t.count .lostEdges)
  unfold State.tellFlushed
  split
  · split <;> exact ⟨rfl, rfl⟩
  · split
    · unfold State.edgeFlushed
      dsimp only
      split
      · exact hcount _ _
      · exact hcount (s.setSource _ _) _
    · exact ⟨rfl, rfl⟩
  · exact ⟨rfl, rfl⟩
  · split <;> exact ⟨rfl, rfl⟩

/-- A flush empties the list and leaves the bus interface. -/
theorem flush_bus_tx (s : State) : s.flush.bus = s.bus ∧ s.flush.tx = [] := by
  have h : ∀ (l : List TxEntry) (t : State), (l.foldl State.tellFlushed t).bus = t.bus ∧
      (l.foldl State.tellFlushed t).tx = t.tx := by
    intro l
    induction l with
    | nil => exact fun t => ⟨rfl, rfl⟩
    | cons e l ih =>
      intro t
      have he := tellFlushed_bus_tx t e
      have hl := ih (t.tellFlushed e)
      exact ⟨hl.1.trans he.1, hl.2.trans he.2⟩
  exact h s.tx (s.setTx [])

theorem enterWithdrawn_run {s : State} (hact : s.bus.activity = .idle) (h : A → s.bus.station ≠ .offline) :
    Run A s s.enterWithdrawn := by
  obtain ⟨hbus, htx⟩ := flush_bus_tx s
  have hset : Effect A s.flush
      (s.flush.setBus { s.flush.bus with failures := 0, fresh := false, holdOff := s.flush.timerFor withdrawUs }) :=
    .bus s.flush _ 0 _ _ _ _ _ fun _ => by decide
  have hst : s.flush.bus.station = s.bus.station := by rw [hbus]
  unfold State.enterWithdrawn
  refine Relation.ReflTransGen.trans ?_ (enterState_run (fun _ _ _ => htx) (fun ha => .inl (hst.symm ▸ h ha)))
  exact Relation.ReflTransGen.trans ((Run.one (.flushes s hact)).tail hset) (SourceEffect.latched _ _ (by decide)).run

theorem enterConflict_run {s : State} (hact : s.bus.activity = .idle) (h : A → s.bus.station ≠ .offline) :
    Run A s s.enterConflict := by
  obtain ⟨hbus, htx⟩ := flush_bus_tx s
  have hset : Effect A s.flush (s.flush.setBus { s.flush.bus with holdOff := none }) :=
    .bus s.flush _ _ _ _ _ _ _ id
  have hst : s.flush.bus.station = s.bus.station := by rw [hbus]
  unfold State.enterConflict
  refine Relation.ReflTransGen.trans ?_ (enterState_run (fun _ _ _ => htx) (fun ha => .inl (hst.symm ▸ h ha)))
  refine Relation.ReflTransGen.trans ?_ (SourceEffect.latched _ _ (by decide)).run
  exact Relation.ReflTransGen.trans ((Run.one (.flushes s hact)).tail hset) (SourceEffect.unlatched _ _ (by decide)).run

/-- An entry into a state that is no forced-safe condition stops nothing. -/
theorem enterState_free {s : State} {st : StationState} (h : forcedIn st s.bus.safeOnWithdraw = false) :
    s.enterState st = s.moveTo st := by
  rw [enterState_eq, h]
  rfl

theorem enterListening_eq (s : State) :
    s.enterListening = ((s.unlatch .withdrawn).moveTo .listening).setBus
      { s.bus with station := .listening, standing := 15, holdOff := some (s.time + 2 * s.bus.beaconUs) } := by
  unfold State.enterListening
  rw [enterState_free rfl]
  rfl

theorem comeOnline_eq (s : State) :
    s.comeOnline = (s.enterListening.setBus { s.enterListening.bus with phase := .waitingIdle }).setBeacon
      { s.beacon with timer := some (s.time + s.bus.beaconUs) } := by
  unfold State.comeOnline
  rw [enterListening_eq]
  rfl

theorem enterJoining_eq (s : State) :
    s.enterJoining = ((s.moveTo .joining).setBus { s.bus with station := .joining, holdOff := none }).setBeacon
      { s.beacon with owesJoin := true } := by
  unfold State.enterJoining
  rw [enterState_free rfl]
  rfl

theorem enterListening_run {s : State} (htx : A → s.tx = [])
    (h : A → s.bus.station ≠ .offline ∨ s.loader.phase.Ended) : Run A s s.enterListening := by
  have hmove : Run A s ((s.unlatch .withdrawn).moveTo .listening) :=
    (SourceEffect.unlatched s .withdrawn (by decide)).run.tail (.moves _ .listening (fun ha _ _ => htx ha) h)
  rw [enterListening_eq]
  exact hmove.tail (.bus ((s.unlatch .withdrawn).moveTo .listening) _ _ _ _ _ _ _ id)

theorem comeOnline_run {s : State} (htx : A → s.tx = []) (h : A → s.bus.station ≠ .offline ∨ s.loader.phase.Ended) :
    Run A s s.comeOnline := by
  rw [comeOnline_eq]
  exact ((enterListening_run htx h).tail (.bus s.enterListening _ _ _ _ _ _ _ id)).tail (.beacon _ _)

theorem enterJoining_run {s : State} (h : A → s.bus.station ≠ .offline) : Run A s s.enterJoining := by
  rw [enterJoining_eq]
  have hmove : Run A s (s.moveTo .joining) := .one (.moves s _ (fun _ hj _ => absurd rfl hj) (fun ha => .inl (h ha)))
  exact (hmove.tail (.bus (s.moveTo .joining) _ _ _ _ _ _ _ id)).tail (.beacon _ _)

/-! ## Conclusions -/

/-- What tells a producer of its conclusion works on the action side and the reply, but for the JOIN, which leads to
JOINED (R141). -/
theorem tellConcluded_bus (s : State) (e : TxEntry) (r : TxResult) :
    (s.tellConcluded e r).bus = s.bus ∨ (s.tellConcluded e r).bus = { s.bus with station := .joined } := by
  have hnote : (s.noteResult r).bus = s.bus := by cases r <;> rfl
  unfold State.tellConcluded
  split
  · unfold State.releaseConcluded
    split
    · exact .inl rfl
    · exact .inl hnote
  · next i _ =>
    have hhold : (s.holdConcluded i e.unwanted r).bus = s.bus := by
      unfold State.holdConcluded
      dsimp only
      split
      · exact hnote
      · split
        · exact hnote
        · obtain ⟨_, _, _, _, hq⟩ := testQuorum_side ((s.noteResult r).setSource i
            { (s.noteResult r).source i with holdState := .awaiting, releaseTimer := (s.noteResult r).releaseTimerStart }) i
          rw [hq]
          exact hnote
    have hclear : (s.clearConcluded i r).bus = s.bus := by
      unfold State.clearConcluded
      dsimp only
      split <;> exact hnote
    split
    · exact .inl hnote
    · exact .inl hclear
    all_goals exact .inl hhold
  · exact .inl hnote
  · split
    · exact .inr (congrArg (fun b : BusInterface => { b with station := .joined }) hnote)
    · exact .inl rfl

theorem tellReturned_side (s : State) (e : TxEntry) : SourceSide s (s.tellReturned e) := by
  unfold State.tellReturned
  split
  · exact withdrawEntry_side _ _
  · split
    · unfold State.holdReturned
      split
      · exact dropOffBus_side _ _
      · exact SourceSide.refl _
    all_goals exact SourceSide.refl _

theorem SourceSide.bus_eq {s t : State} (h : SourceSide s t) : t.bus = s.bus := by
  obtain ⟨_, _, _, _, rfl⟩ := h
  rfl

theorem ActionSide.bus_eq {s t : State} (h : ActionSide s t) : t.bus = s.bus := by
  obtain ⟨_, _, _, _, _, _, _, _, _, _, rfl⟩ := h
  rfl

theorem headConcluded_bus (s : State) (e : TxEntry) (rest : List TxEntry) (a : Attempt) :
    (s.headConcluded e rest a).bus = s.bus ∨ (s.headConcluded e rest a).bus = { s.bus with station := .joined } := by
  unfold State.headConcluded
  split
  · exact tellConcluded_bus (s.setTx rest) e _
  · exact .inl (tellReturned_side _ _).bus_eq

theorem selfDeliver_run (s : State) (e : TxEntry) : Run A s (s.selfDeliver e) := by
  refine (Run.one (.marks s e.producer)).trans ?_
  unfold State.selfDeliver
  split
  · exact (dispatchEdge_run _ _ _ _).run
  · exact (selfHold_run _ _ _).run
  · exact (dispatchClear_run _ _ _).run
  · exact .refl

theorem selfDeliver_bus (s : State) (e : TxEntry) : (s.selfDeliver e).bus = s.bus := by
  unfold State.selfDeliver
  dsimp only
  split
  · exact (dispatchEdge_side _ _ _ _).bus_eq
  · exact (selfHold_side _ _ _).bus_eq
  · exact (dispatchClear_side _ _ _).bus_eq
  · rfl

theorem countFailures_run {s : State} (n : Nat) (hact : s.bus.activity = .idle) (h : A → s.bus.station ≠ .offline) :
    Run A s (s.countFailures n) := by
  unfold State.countFailures
  split
  · exact enterWithdrawn_run hact h
  · next hn =>
    exact (Run.one (.bus s _ n _ _ _ _ _ fun _ => by omega)).trans (settle_run (s.setBus { s.bus with failures := n }))

theorem conclude_run {s : State} {st : BitVec 4} (a : Attempt) (hact : s.bus.activity = .attempting st)
    (h : A → s.tx ≠ [] → s.bus.station ≠ .offline) : Run A s (s.conclude a) := by
  unfold State.conclude
  split
  · next ht => exact .one (.quiets s ht)
  · next e rest ht =>
    dsimp only
    generalize hu : ((s.setBus { s.bus with activity := .idle }).countAttempt a).headConcluded e rest a = u
    have hrun : Run A s u := hu ▸ .one (.concludes s st e rest a hact ht)
    have hbus : u.bus.activity = .idle ∧ (A → u.bus.station ≠ .offline) := by
      have hcount : ((s.setBus { s.bus with activity := .idle }).countAttempt a).bus = { s.bus with activity := .idle } := by
        cases a <;> rfl
      have hhead := headConcluded_bus ((s.setBus { s.bus with activity := .idle }).countAttempt a) e rest a
      rw [hu, hcount] at hhead
      rcases hhead with hb | hb <;> rw [hb]
      · exact ⟨rfl, fun ha => h ha (by simp [ht])⟩
      · exact ⟨rfl, fun _ => by simp⟩
    generalize hv : (if a ≠ .failedBit ∧ e.selfDelivers = true then u.selfDeliver e else u) = v
    have hv' : Run A u v ∧ v.bus = u.bus := by
      rw [← hv]
      split
      · exact ⟨selfDeliver_run u e, selfDeliver_bus u e⟩
      · exact ⟨.refl, rfl⟩
    have hw := countFailures_run (failuresAfter s.bus.failures a (!s.anyPresent)) (hv'.2 ▸ hbus.1)
      (fun ha => hv'.2 ▸ hbus.2 ha)
    have hend := (hrun.trans hv'.1).trans hw
    split
    · exact hend.tail (.restarts _ _ _ _ _)
    · exact hend

/-! ## Reception -/

theorem takeQuery_run (s : State) (a : Addr) (item index : Byte) : Run A s (s.takeQuery a item index) := by
  unfold State.takeQuery
  split
  · exact (SourceEffect.tallied s .queriesDropped).run
  · dsimp only
    split
    · exact ((Run.one (.faultReset s)).tail (.withdrawsReport _)).tail (.reply _ _)
    · exact (Run.one (.withdrawsReport s)).tail (.reply _ _)

theorem takeJoin_run (s : State) (f : Frame) (prior : Option Seq) (fresh : Bool) (sig : Signature) :
    Run A s (s.takeJoin f prior fresh sig) := by
  unfold State.takeJoin
  dsimp only
  generalize hc : (if (fresh && prior != some f.seq) = true then satInc (s.rosterAt f.sender).freshJoins
    else (s.rosterAt f.sender).freshJoins) = n
  have h1 : Run A s (s.setRoster (addrIdx f.sender)
      { s.rosterAt f.sender with signature := some sig, freshJoins := n }) := .one (.roster s _ _ rfl)
  refine h1.trans ?_
  generalize s.setRoster (addrIdx f.sender) { s.rosterAt f.sender with signature := some sig, freshJoins := n } = t
  generalize hu : (if (t.bus.requireCommonImage && sig != t.ownSignature) = true then t.latch .imageMismatch else t) = u
  have h2 : Run A t u := by
    rw [← hu]
    split
    · exact (SourceEffect.latched t .imageMismatch (by decide)).run
    · exact .refl
  split
  · exact h2.trans (purge_run u f.sender).run
  · exact h2

theorem deliver_run (s : State) (f : Frame) (prior : Option Seq) (hf : f.sender ≠ s.address) :
    Run A s (s.deliver f prior) := by
  unfold State.deliver
  split
  · exact takeJoin_run s f prior _ _
  · exact .refl
  · exact .refl
  · exact (dispatchEdge_run s _ _ _).run
  · exact (dispatchHold_run s _ _ _ hf).run
  · exact (takeClear_run s _ _ _).run
  · split
    · exact .refl
    · exact (takeRelease_run s _ _ _ hf).run
  · split
    · exact .refl
    · split
      · exact takeQuery_run s _ _ _
      · exact .refl

theorem filter_run (s : State) (f : Frame) (hf : f.sender ≠ s.address) : Run A s (s.filter f) := by
  unfold State.filter
  split
  · exact (Run.one (.hears s f hf)).trans (SourceEffect.tallied _ .duplicates).run
  · exact (Run.one (.hears s f hf)).trans (deliver_run _ f _ hf)

theorem takesFrame_iff (s : State) : s.takesFrame = true ↔ Receiving s := by
  simp [State.takesFrame, and_assoc]

theorem takeVerdict_run {s : State} (v : Verdict) (h : Receiving s) : Run A s (s.takeVerdict v) := by
  obtain ⟨hst, hact, _⟩ := h
  have hend : Effect A s (s.frameEnds (s.slotsFor v)) := .bus s _ _ _ _ _ _ _ id
  unfold State.takeVerdict
  dsimp only
  split
  · next f =>
    split
    · unfold State.takeOwnAddress
      split
      · exact .one hend
      · exact (Run.one hend).trans (enterConflict_run hact (fun _ => hst))
    · next hf => exact (Run.one hend).trans (filter_run _ f hf)
  all_goals exact .one hend

theorem receive_run (s : State) (f : Frame) : Run A s (s.receive f) := by
  unfold State.receive
  split
  · next h => exact takeVerdict_run _ ((takesFrame_iff s).1 h)
  · exact .refl

theorem receiveSettled_run (s : State) (f : Frame) : Run A s (s.receiveSettled f) := by
  unfold State.receiveSettled
  split
  · exact (receive_run s f).trans (settle_run _)
  · exact .refl

theorem reportLost_run (n : Nat) (s : State) (ws ps : List Addr) : Run A s (State.reportLost n s ws ps) := by
  have hw : ∀ (l : List Addr) (t : State), Run A t (l.foldl State.waive t) := fun l t =>
    (Actions.fold State.waive waive_run l t).run
  have hp : ∀ (l : List Addr) (t : State), Run A t (l.foldl State.purge t) := fun l t =>
    (Actions.fold State.purge purge_run l t).run
  induction n generalizing s ws ps with
  | zero =>
    cases ws with
    | nil => exact hp ps s
    | cons w ws =>
      cases ps with
      | nil => exact hw (w :: ws) s
      | cons p ps => exact .refl
  | succ n ih =>
    cases ws with
    | nil => exact hp ps s
    | cons w ws =>
      cases ps with
      | nil => exact hw (w :: ws) s
      | cons p ps =>
        have hfree := setFreeCount_run (A := A) s (s.freeCount + 1)
        simp only [State.reportLost]
        split
        · exact (hfree.trans (waive_run _ w).run).trans (ih _ _ _)
        · exact (hfree.trans (purge_run _ p).run).trans (ih _ _ _)

/-! ## The loader -/

theorem goOnline_run {s : State} (sig : Signature) (htx : A → s.tx = [])
    (h : A → s.bus.station ≠ .offline ∨ s.loader.phase.Ended) : Run A s (s.goOnline sig) := by
  unfold State.goOnline
  refine Relation.ReflTransGen.trans ?_ (comeOnline_run htx h)
  refine Relation.ReflTransGen.tail ?_ (.roster _ _ _ rfl)
  exact .single (.loads s _ (.inl rfl))

theorem loadFailed_run {s : State} (reason table : BitVec 3) (index : BitVec 5) (hl : ¬s.loader.phase.Ended)
    (htx : A → s.tx = []) : Run A s (s.loadFailed reason table index) := by
  have hload := Run.one (A := A) (.loads s
    { s.loader with phase := .failed, reason := reason, failTable := table, failIndex := index } (.inr ⟨hl, by simp⟩))
  refine (hload.trans (SourceEffect.latched _ .configFailed (by decide)).run).trans ?_
  exact goOnline_run 0 htx (fun _ => .inr (.inr rfl))

theorem passFault_run {s : State} (reason : BitVec 3) (hl : ¬s.loader.phase.Ended) (htx : A → s.tx = []) :
    Run A s (s.passFault reason) := by
  unfold State.passFault
  split
  · exact .one (.loads s _ (.inr ⟨hl, by simp⟩))
  · exact loadFailed_run _ _ _ hl htx

theorem evaluateCondition_source_ne (s : State) {i j : Fin 16} (h : i ≠ j) :
    (s.evaluateCondition i).source j = s.source j := by
  unfold State.evaluateCondition
  dsimp only
  split
  · simp [State.startInst, State.source_setSource, h]
  · rfl

/-- The conditions are evaluated at entries that are QUIET, as the image leaves them. -/
theorem evaluateAll_run {s : State} (h : ∀ i, (s.source i).holdState = .quiet) :
    Run A s (forEach (fun i w => w.evaluateCondition i) s) := by
  have hfold : ∀ (l : List (Fin 16)) (t : State), l.Nodup → (∀ i ∈ l, (t.source i).holdState = .quiet) →
      Run A t (l.foldl (fun w i => w.evaluateCondition i) t) := by
    intro l
    induction l with
    | nil => exact fun t _ _ => .refl
    | cons i l ih =>
      intro t hn hq
      obtain ⟨hi, hl⟩ := List.nodup_cons.1 hn
      refine (Run.one (.evaluates t i (hq i (by simp)))).trans (ih _ hl (fun j hj => ?_))
      rw [evaluateCondition_source_ne t (fun hij => hi (by rw [hij]; exact hj))]
      exact hq j (by simp [hj])
  exact hfold _ s (List.nodup_finRange 16) (fun i _ => h i)

theorem goOnline_sources (s : State) (sig : Signature) : (s.goOnline sig).sources = s.sources := by
  unfold State.goOnline
  rw [comeOnline_eq, enterListening_eq]
  simp [State.moveTo, State.setForced, State.unlatch]

theorem configure_sources (s : State) (img : List Byte) : (s.configure img).sources = Vector.ofFn (imageSource img) := rfl

theorem loadReady_run {s : State} (img : List Byte) (hv : validate img = none) (hl : ¬s.loader.phase.Ended)
    (hA : A → s.tx = [] ∧ s.bus.station = .offline) : Run A s (s.loadReady img) := by
  unfold State.loadReady
  dsimp only
  refine (Run.one (.readies s img hv hl hA)).trans ?_
  refine (evaluateAll_run (fun i => ?_)).trans ?_
  · rw [State.source, goOnline_sources, configure_sources, look_ofFn]
    rfl
  · exact (Actions.fold _ (fun t g => fire_run t g 1) _ _).run.trans (setFreeCount_run _ _)

/-- Until the loader ends, the station is OFFLINE and its list empty. -/
theorem AdmissionSafe.before_end {s : State} (h : AdmissionSafe s) (hl : ¬s.loader.phase.Ended) :
    s.tx = [] ∧ s.bus.station = .offline := by
  have hoff := h.2 (fun hr => hl (.inl hr)) (fun hf => hl (.inr hf))
  exact ⟨h.1 (by simp [hoff]) (by simp [hoff]), hoff⟩

theorem takeHeader_run {s : State} (h : List Byte) (hl : ¬s.loader.phase.Ended) (htx : A → s.tx = []) :
    Run A s (s.takeHeader h) := by
  unfold State.takeHeader
  dsimp only
  have hload := Run.one (A := A)
    (.loads s { s.loader with buffer := h, crc := crcBytes s.loader.crc h } (.inl rfl))
  split
  · exact hload.trans (passFault_run _ hl htx)
  · exact hload.tail (.loads _ _ (.inl rfl))

theorem takeBody_run {s : State} (body : List Byte) (hl : ¬s.loader.phase.Ended)
    (hA : A → s.tx = [] ∧ s.bus.station = .offline) : Run A s (s.takeBody body) := by
  unfold State.takeBody
  dsimp only
  refine (Run.one (.loads s { s.loader with
    phase := .checking, port := .deselected, timer := none, buffer := s.loader.buffer ++ body,
    crc := crcBytes s.loader.crc (body.take 500) } (.inr ⟨hl, by simp⟩))).trans ?_
  unfold State.check
  split
  · exact passFault_run _ (by simp [LoaderPhase.Ended]) (fun ha => (hA ha).1)
  · split
    · exact loadFailed_run _ _ _ (by simp [LoaderPhase.Ended]) (fun ha => (hA ha).1)
    · next hv => exact loadReady_run _ hv (by simp [LoaderPhase.Ended]) hA

theorem beginPass_run {s : State} (hl : ¬s.loader.phase.Ended) : Run A s s.beginPass :=
  .one (.loads s _ (.inr ⟨hl, by simp⟩))

/-! ## Inputs -/

theorem filteredChange_run (s : State) (n : Fin 16) (b : Bool) : Run A s (s.filteredChange n b) :=
  (((setInput_run s n _).trans (presentEdge_run _ _ _).run).trans (presentLevel_run _ _ _).run).trans (settle_run _)

theorem conditionerStep_run (s : State) (n : Fin 16) : Run A s (s.conditionerStep n) := by
  unfold State.conditionerStep
  dsimp only
  split
  · exact setInput_run s n _
  · split
    · exact filteredChange_run s n _
    · split
      · exact setInput_run s n _
      · exact .refl

/-! ## The commands -/

theorem next_inj {s t : State} (h : (Host.Outcome.next s : Result) = .next t) : s = t := by
  injection h

theorem execInputPinChange_run {s t : State} {n : Fin 16} {b : Bool} (h : execInputPinChange n b s = .next t) :
    Run A s t := by
  unfold execInputPinChange at h
  dsimp only at h
  split at h <;> obtain rfl := next_inj h
  · exact (setPin_run s n b).trans (conditionerStep_run _ n)
  · exact setPin_run s n b

theorem execStabilityIntervalExpiry_run {s t : State} {n : Fin 16} (h : execStabilityIntervalExpiry n s = .next t) :
    Run A s t := by
  unfold execStabilityIntervalExpiry at h
  dsimp only at h
  split at h
  · obtain rfl := next_inj h; exact .refl
  · split at h <;> obtain rfl := next_inj h
    · exact Relation.ReflTransGen.trans (reach_run s _) (setInput_run _ n _)
    · exact Relation.ReflTransGen.trans (reach_run s _) (filteredChange_run _ n _)

theorem execReleaseTimerExpiry_run {s t : State} {i : Fin 16} (h : execReleaseTimerExpiry i s = .next t) : Run A s t := by
  unfold execReleaseTimerExpiry at h
  dsimp only at h
  split at h <;> obtain rfl := next_inj h
  · exact .refl
  · next hr =>
    have heff := SourceEffect.releaseExpiry (s.reach (s.source i).releaseTimer) i (by rwa [reach_source])
    exact Run.settled ((reach_run s _).trans heff.run)

theorem execRepeatTimerExpiry_run {s t : State} {i : Fin 16} (h : execRepeatTimerExpiry i s = .next t) : Run A s t := by
  unfold execRepeatTimerExpiry at h
  dsimp only at h
  split at h <;> obtain rfl := next_inj h
  · exact .refl
  · next hr =>
    have heff := SourceEffect.repeatExpiry (s.reach (s.source i).repeatTimer) i (by rwa [reach_source])
    exact Run.settled ((reach_run s _).trans heff.run)

theorem execDelayExpiry_run {s t : State} {g : Fin 8} (h : execDelayExpiry g s = .next t) : Run A s t := by
  unfold execDelayExpiry at h
  split at h <;> obtain rfl := next_inj h
  · next hp =>
    exact (reach_run s _).trans (delayEnds_run (by rwa [reach_gen])).run
  · exact .refl

theorem execPulseExpiry_run {s t : State} {g : Fin 8} (h : execPulseExpiry g s = .next t) : Run A s t := by
  unfold execPulseExpiry at h
  split at h <;> obtain rfl := next_inj h
  · next hp =>
    exact Run.settled ((reach_run s _).trans (pulseEnds_run (by rwa [reach_gen])).run)
  · exact .refl

theorem execGapExpiry_run {s t : State} {g : Fin 8} (h : execGapExpiry g s = .next t) : Run A s t := by
  unfold execGapExpiry at h
  split at h <;> obtain rfl := next_inj h
  · next hp =>
    exact (reach_run s _).trans (gapEnds_run (by rwa [reach_gen])).run
  · exact .refl

theorem execBusIdle_run {s t : State} (h : execBusIdle s = .next t) : Run A s t := by
  unfold execBusIdle at h
  split at h <;> obtain rfl := next_inj h
  · exact (Run.one (.bus s _ _ _ _ _ _ _ id)).trans (offerIfIdle_run (s.setBus { s.bus with phase := .busIdle }))
  · exact .refl

theorem execFrameBegins_run {s t : State} (h : execFrameBegins s = .next t) : Run A s t := by
  unfold execFrameBegins at h
  split at h <;> obtain rfl := next_inj h
  · exact (Run.one (.bus s _ _ _ _ _ _ _ id)).tail (.offers (s.setBus { s.bus with phase := .receiving, stopped := false }))
  · exact .refl

theorem execContentionWon_run {s t : State} (h : execContentionWon s = .next t) : Run A s t := by
  unfold execContentionWon at h
  split at h <;> obtain rfl := next_inj h
  · next st hst => exact (Run.one (.wins s st hst)).trans (settle_run _)
  all_goals exact .refl

theorem execContentionLost_run {s t : State} (h : execContentionLost s = .next t) : Run A s t := by
  unfold execContentionLost at h
  split at h <;> obtain rfl := next_inj h
  · next st hst => exact (Run.one (.loses s st hst)).trans (settle_run _)
  all_goals exact .refl

/-- A station whose list holds an entry is JOINING or JOINED. -/
theorem AdmissionSafe.station_of_tx {s : State} (h : AdmissionSafe s) (ht : s.tx ≠ []) :
    s.bus.station = .joining ∨ s.bus.station = .joined := by
  by_contra hn
  exact ht (h.1 (fun hj => hn (.inl hj)) (fun hj => hn (.inr hj)))

theorem AdmissionSafe.not_offline_of_tx {s : State} (h : AdmissionSafe s) (ht : s.tx ≠ []) : s.bus.station ≠ .offline := by
  rcases h.station_of_tx ht with hs | hs <;> simp [hs]

theorem execBitError_run {s t : State} (h : execBitError s = .next t) : Run (AdmissionSafe s) s t := by
  unfold execBitError at h
  split at h <;> obtain rfl := next_inj h
  · next st hst =>
    refine (Run.one (.bus s _ _ _ _ _ _ _ id)).trans (conclude_run (s := s.setBus { s.bus with phase := .receiving, stopped := true })
      (st := st) .failedBit hst (fun ha ht => ha.not_offline_of_tx ht))
  all_goals exact .refl

theorem execAttemptConclusion_run {s t : State} {ack nak : Bool} (h : execAttemptConclusion ack nak s = .next t) :
    Run (AdmissionSafe s) s t := by
  unfold execAttemptConclusion at h
  split at h <;> obtain rfl := next_inj h
  · next st hst =>
    refine (Run.one (.bus s _ _ _ _ _ _ _ id)).trans (conclude_run (s := s.setBus { s.bus with phase := .waitingIdle, stopped := false })
      (st := st) _ hst (fun ha ht => ha.not_offline_of_tx ht))
  all_goals exact .refl

theorem execFrameTruncation_run {s t : State} (h : execFrameTruncation s = .next t) : Run A s t := by
  unfold execFrameTruncation at h
  split at h <;> obtain rfl := next_inj h
  · next hf => exact takeVerdict_run _ ((takesFrame_iff s).1 hf)
  · exact .refl

theorem execFrameInError_run {s t : State} {cells : List Bool} (h : execFrameInError cells s = .next t) : Run A s t := by
  unfold execFrameInError at h
  split at h <;> obtain rfl := next_inj h
  · next hf => exact (takeVerdict_run _ ((takesFrame_iff s).1 hf)).trans (settle_run _)
  · exact .refl

theorem execHoldOffExpiry_run {s t : State} (h : execHoldOffExpiry s = .next t) : Run (AdmissionSafe s) s t := by
  have hrun := reach_run (A := AdmissionSafe s) s s.bus.holdOff
  unfold execHoldOffExpiry at h
  split at h
  · obtain rfl := next_inj h; exact .refl
  · split at h <;> obtain rfl := next_inj h
    · next hst => exact (hrun.trans (enterJoining_run (fun _ => by simp [hst]))).trans (settle_run _)
    · next hst =>
      refine hrun.trans (enterListening_run (fun ha => ?_) (fun _ => .inl (by simp [hst])))
      rw [reach_tx]
      exact ha.1 (by simp [hst]) (by simp [hst])
    all_goals exact .refl

theorem execBeaconIntervalExpiry_run {s t : State} (h : execBeaconIntervalExpiry s = .next t) : Run A s t := by
  unfold execBeaconIntervalExpiry at h
  dsimp only at h
  split at h <;> obtain rfl := next_inj h
  · exact .refl
  · refine Run.settled ?_
    unfold State.beaconDecides
    refine Relation.ReflTransGen.tail ?_ (.beacon _ _)
    unfold State.ageAndReport
    refine Relation.ReflTransGen.trans ?_ (reportLost_run _ _ _ _)
    exact ((reach_run s _).tail (.beacon _ _)).tail (.ages _)

theorem execResetHoldExpiry_run {s t : State} (h : execResetHoldExpiry s = .next t) : Run A s t := by
  unfold execResetHoldExpiry at h
  split at h <;> obtain rfl := next_inj h
  · next hp =>
    exact (reach_run s _).trans (beginPass_run (by simp [LoaderPhase.Ended, hp]))
  · exact .refl

theorem execPassRetryWaitExpiry_run {s t : State} (h : execPassRetryWaitExpiry s = .next t) : Run A s t := by
  unfold execPassRetryWaitExpiry at h
  split at h <;> obtain rfl := next_inj h
  · next hp =>
    have hread : s.loader.phase = .reading := by simp [Loader.waiting] at hp; exact hp.1
    exact (reach_run s _).trans (beginPass_run (by simp [LoaderPhase.Ended, hread]))
  · exact .refl

theorem Loader.reading_of_inPass {l : Loader} (h : l.inPass = true) : l.phase = .reading := by
  simp [Loader.inPass] at h
  exact h.1

theorem execHeaderCheck_run {s t : State} {header : Vector Byte 11} (h : execHeaderCheck header s = .next t) :
    Run (AdmissionSafe s) s t := by
  unfold execHeaderCheck at h
  split at h <;> obtain rfl := next_inj h
  · next hp =>
    have hl : ¬s.loader.phase.Ended := by simp [LoaderPhase.Ended, Loader.reading_of_inPass hp.1]
    refine (reach_run s _).trans (takeHeader_run _ (by rwa [reach_loader]) (fun ha => ?_))
    rw [reach_tx]
    exact (ha.before_end hl).1
  · exact .refl

theorem execReadPassEnd_run {s t : State} {body : Vector Byte 502} (h : execReadPassEnd body s = .next t) :
    Run (AdmissionSafe s) s t := by
  unfold execReadPassEnd at h
  split at h <;> obtain rfl := next_inj h
  · next hp =>
    have hl : ¬s.loader.phase.Ended := by simp [LoaderPhase.Ended, Loader.reading_of_inPass hp.1]
    refine (reach_run s _).trans (takeBody_run _ (by rwa [reach_loader]) (fun ha => ?_))
    rw [reach_tx, reach_bus]
    exact ha.before_end hl
  · exact .refl

/-- Every command is a run of effects. -/
theorem exec_run {c : Instr} {s t : State} (h : exec c s = .next t) : Run (AdmissionSafe s) s t := by
  cases c with
  | fullReset adr rate => obtain rfl := next_inj h; exact .one (.restarts s adr rate 0 0)
  | resetHoldExpiry => exact execResetHoldExpiry_run h
  | headerCheck header => exact execHeaderCheck_run h
  | passRetryWaitExpiry => exact execPassRetryWaitExpiry_run h
  | readPassEnd body => exact execReadPassEnd_run h
  | inputPinChange n b => exact execInputPinChange_run h
  | stabilityIntervalExpiry n => exact execStabilityIntervalExpiry_run h
  | releaseTimerExpiry i => exact execReleaseTimerExpiry_run h
  | repeatTimerExpiry i => exact execRepeatTimerExpiry_run h
  | delayExpiry g => exact execDelayExpiry_run h
  | pulseExpiry g => exact execPulseExpiry_run h
  | gapExpiry g => exact execGapExpiry_run h
  | busIdle => exact execBusIdle_run h
  | contentionWon => exact execContentionWon_run h
  | contentionLost => exact execContentionLost_run h
  | bitError => exact execBitError_run h
  | attemptConclusion ack nak => exact execAttemptConclusion_run h
  | holdOffExpiry => exact execHoldOffExpiry_run h
  | frameTruncation => exact execFrameTruncation_run h
  | frameInError cells => exact execFrameInError_run h
  | beaconIntervalExpiry => exact execBeaconIntervalExpiry_run h
  | frameBegins => exact execFrameBegins_run h
  | queryOtherTarget rx target item index =>
    change Host.Outcome.next (if target = s.address then _ else _) = _ at h
    split at h <;> obtain rfl := next_inj h
    · exact receiveSettled_run s _
    · exact receive_run s _
  | ownAddressFrame | presenceArrival | reportArrival => obtain rfl := next_inj h; exact receive_run s _
  | edgeArrival | holdArrival | clearArrival | releaseArrival | joinArrival | querySummary | querySource | queryAccept
  | queryGenerator | queryCounter | queryRoster | queryTally | queryOutputs | queryGroups | faultReset | queryRestart
  | queryUnknownItem => obtain rfl := next_inj h; exact receiveSettled_run s _

/-- Every step is a run of effects. -/
theorem step_run {s t : State} (h : step s = .next t) : Run (AdmissionSafe s) s t := by
  unfold step at h
  split at h
  · obtain rfl := next_inj h
    exact .one (.outside s (s.time + 1) s.pins s.inputs s.freeCount (s.dueExpiries (s.time + 1)))
  · next c rest _ =>
    have hpop : Run (AdmissionSafe s) s { s with pending := rest } :=
      .one (.outside s s.time s.pins s.inputs s.freeCount rest)
    exact hpop.trans (exec_run h)

end Sys2Proof.Machine
end

section
/-! PROOF. What the transmit side can change, the reading of a validation that refuses nothing, and the invariants of
the counters (R103) and of the roster (R150). -/

namespace Sys2Proof.Machine

variable {A : Prop}

/-! ## The transmit side -/

/-- What the soundness of a record depends on (R42). -/
def AcceptRecord.key (r : AcceptRecord) : Addr × Channel × Nat := (r.sender, r.channel, r.duties.length)

/-- Every slot keeps its record, as far as its soundness depends on it. -/
def SameRecords (s t : State) : Prop := ∀ j, (t.slot j).map AcceptRecord.key = (s.slot j).map AcceptRecord.key

theorem SameRecords.trans {s t u : State} (h : SameRecords s t) (k : SameRecords t u) : SameRecords s u :=
  fun j => (k j).trans (h j)

/-- Only what wins, returns, conclusions and flushes work on differs, and the slots keep their records. -/
def TransmitSide (s t : State) : Prop :=
  (∃ src l f n r rp bc act sd sq ph sp,
    t = { s with sources := src, tx := l, faults := f, tallies := n, slots := r, reply := rp, beacon := bc,
                 bus := { s.bus with activity := act, standing := sd, sequence := sq, phase := ph, stopped := sp } }) ∧
    SameRecords s t

theorem TransmitSide.refl (s : State) : TransmitSide s s := ⟨⟨_, _, _, _, _, _, _, _, _, _, _, _, rfl⟩, fun _ => rfl⟩

theorem TransmitSide.trans {s t u : State} (h : TransmitSide s t) (k : TransmitSide t u) : TransmitSide s u := by
  refine ⟨?_, h.2.trans k.2⟩
  obtain ⟨⟨_, _, _, _, _, _, _, _, _, _, _, _, rfl⟩, _⟩ := h
  obtain ⟨⟨_, _, _, _, _, _, _, _, _, _, _, _, rfl⟩, _⟩ := k
  exact ⟨_, _, _, _, _, _, _, _, _, _, _, _, rfl⟩

theorem SourceSide.transmit {s t : State} (h : SourceSide s t) : TransmitSide s t := by
  obtain ⟨_, _, _, _, rfl⟩ := h
  exact ⟨⟨_, _, _, _, _, _, _, _, _, _, _, _, rfl⟩, fun _ => rfl⟩

theorem setBus_transmit (s : State) (act : TxActivity) (sd : BitVec 4) (sq : Seq) :
    TransmitSide s (s.setBus { s.bus with activity := act, standing := sd, sequence := sq }) :=
  ⟨⟨_, _, _, _, _, _, _, _, _, _, _, _, rfl⟩, fun _ => rfl⟩
theorem setBeacon_transmit (s : State) (b : Beacon) : TransmitSide s (s.setBeacon b) :=
  ⟨⟨_, _, _, _, _, _, _, _, _, _, _, _, rfl⟩, fun _ => rfl⟩
theorem setReply_transmit (s : State) (r : Option Reply) : TransmitSide s (s.setReply r) :=
  ⟨⟨_, _, _, _, _, _, _, _, _, _, _, _, rfl⟩, fun _ => rfl⟩
theorem setTx_transmit (s : State) (l : List TxEntry) : TransmitSide s (s.setTx l) := (setTx_side s l).transmit
theorem setRecordState_transmit (s : State) (j : Fin 8) (st : RecordState) (b : Bool) :
    TransmitSide s (s.setRecordState j st b) := by
  refine ⟨⟨_, _, _, _, _, _, _, _, _, _, _, _, rfl⟩, fun i => ?_⟩
  rw [State.setRecordState, State.slot_setSlot]
  split
  · next hij =>
    rw [hij, Option.map_map]
    rfl
  · rfl

theorem tellAdmitted_transmit (s : State) (e : TxEntry) : TransmitSide s (s.tellAdmitted e) := by
  unfold State.tellAdmitted
  split
  · exact setRecordState_transmit _ _ _ _
  · split
    · exact (setSource_side _ _ _).transmit
    · exact TransmitSide.refl _
  · exact setReply_transmit _ _
  · split <;> exact setBeacon_transmit _ _

theorem admitOne_transmit (s : State) (e : TxEntry) : TransmitSide s (s.admitOne e) := by
  unfold State.admitOne
  split
  · exact (setTx_transmit _ _).trans (tellAdmitted_transmit _ _)
  · exact TransmitSide.refl _

theorem admitOwed_transmit (s : State) : TransmitSide s s.admitOwed :=
  foldl_rel TransmitSide.refl TransmitSide.trans _ admitOne_transmit _ _

theorem offerHead_transmit (s : State) : TransmitSide s s.offerHead := by
  unfold State.offerHead
  split
  · exact TransmitSide.refl _
  · split
    · exact ⟨⟨_, _, _, _, _, _, _, _, _, _, _, _, rfl⟩, fun _ => rfl⟩
    · exact TransmitSide.refl _
theorem noteResult_side (s : State) (r : TxResult) : SourceSide s (s.noteResult r) := by
  cases r <;> exact ⟨_, _, _, _, rfl⟩

theorem holdWon_side (s : State) (i : Fin 16) (k : InstNo) : SourceSide s (s.holdWon i k) := by
  unfold State.holdWon
  dsimp only
  split
  · exact setSource_side _ _ _
  · exact SourceSide.refl _

theorem tellWon_transmit (s : State) (e : TxEntry) : TransmitSide s (s.tellWon e) := by
  unfold State.tellWon
  split
  · split
    · exact TransmitSide.refl _
    · exact setRecordState_transmit _ _ _ _
  · split
    · exact (setSource_side _ _ _).transmit
    · split
      · exact (holdWon_side _ _ _).transmit
      · exact TransmitSide.refl _
    all_goals exact TransmitSide.refl _
  · exact setReply_transmit _ _
  · exact TransmitSide.refl _

theorem headWon_transmit (s : State) (e : TxEntry) (rest : List TxEntry) : TransmitSide s (s.headWon e rest) := by
  unfold State.headWon
  split
  · exact TransmitSide.refl _
  · exact ((setTx_transmit _ _).trans (setBus_transmit _ _ _ _)).trans (tellWon_transmit _ _)

theorem beaconWon_transmit (s : State) (k : Kind) : TransmitSide s (s.beaconWon k) := by
  unfold State.beaconWon
  split
  · exact setBeacon_transmit _ _
  · exact (setBeacon_transmit _ _).trans (setTx_transmit _ _)

theorem won_transmit (s : State) (st : BitVec 4) : TransmitSide s (s.won st) := by
  unfold State.won
  split
  · exact TransmitSide.refl _
  · exact ((headWon_transmit _ _ _).trans (beaconWon_transmit _ _)).trans (setBus_transmit _ _ _ _)

theorem headReturned_side (s : State) (e : TxEntry) (rest : List TxEntry) : SourceSide s (s.headReturned e rest) :=
  (setTx_side s _).trans (tellReturned_side _ e)

theorem lost_transmit (s : State) : TransmitSide s s.lost := by
  unfold State.lost
  split
  · exact TransmitSide.refl _
  · exact (setBus_transmit _ _ _ _).trans (headReturned_side _ _ _).transmit

theorem holdConcluded_side (s : State) (i : Fin 16) (u : Bool) (r : TxResult) : SourceSide s (s.holdConcluded i u r) := by
  have hnote := noteResult_side s r
  unfold State.holdConcluded
  dsimp only
  split
  · exact hnote
  · split
    · exact hnote.trans (setSource_side _ _ _)
    · exact (hnote.trans (setSource_side _ _ _)).trans (testQuorum_side _ _)

theorem clearConcluded_side (s : State) (i : Fin 16) (r : TxResult) : SourceSide s (s.clearConcluded i r) := by
  have hquiet := fun e => ((noteResult_side s r).trans (setSource_side _ i e)).trans (refreshOrphaned_side _)
  unfold State.clearConcluded
  dsimp only
  split
  · exact (hquiet _).trans (startInst_side _ _ _)
  · exact hquiet _

theorem edgeConcluded_side (s : State) (i : Fin 16) (r : TxResult) : SourceSide s (s.edgeConcluded i r) :=
  (noteResult_side s r).trans (setSource_side _ _ _)

/-- What tells a producer of its conclusion stays on the transmit side, but for a JOIN, which leads to JOINED (R141). -/
theorem tellConcluded_transmit (s : State) (e : TxEntry) (r : TxResult) :
    TransmitSide s (s.tellConcluded e r) ∨
      (e.producer = .beacon ∧ e.kind = .join ∧ s.tellConcluded e r = (s.noteResult r).moveTo .joined) := by
  have hnote := (noteResult_side s r).transmit
  unfold State.tellConcluded
  split
  · unfold State.releaseConcluded
    split
    · exact .inl (TransmitSide.refl _)
    · exact .inl (hnote.trans (setRecordState_transmit _ _ _ _))
  · split
    · exact .inl (edgeConcluded_side _ _ _).transmit
    · exact .inl (clearConcluded_side _ _ _).transmit
    all_goals exact .inl (holdConcluded_side _ _ _ _).transmit
  · exact .inl (hnote.trans (setReply_transmit _ _))
  · next hp =>
    split
    · next hk => exact .inr ⟨hp, hk, enterState_free rfl⟩
    · exact .inl (TransmitSide.refl _)

theorem headConcluded_transmit (s : State) (e : TxEntry) (rest : List TxEntry) (a : Attempt) :
    TransmitSide s (s.headConcluded e rest a) ∨
      ∃ u, TransmitSide s u ∧ s.headConcluded e rest a = u.moveTo .joined := by
  unfold State.headConcluded
  split
  · next r _ =>
    rcases tellConcluded_transmit (s.setTx rest) e r with h | ⟨_, _, h⟩
    · exact .inl ((setTx_transmit _ _).trans h)
    · exact .inr ⟨_, (setTx_transmit _ _).trans (noteResult_side _ r).transmit, h⟩
  · exact .inl (headReturned_side _ _ _).transmit

theorem countAttempt_side (s : State) (a : Attempt) : SourceSide s (s.countAttempt a) := by
  cases a <;> exact ⟨_, _, _, _, rfl⟩

theorem concluded_transmit (s : State) (e : TxEntry) (rest : List TxEntry) (a : Attempt) :
    TransmitSide s (((s.setBus { s.bus with activity := .idle }).countAttempt a).headConcluded e rest a) ∨
      ∃ u, TransmitSide s u ∧
        ((s.setBus { s.bus with activity := .idle }).countAttempt a).headConcluded e rest a = u.moveTo .joined := by
  have hcount : TransmitSide s ((s.setBus { s.bus with activity := .idle }).countAttempt a) :=
    (setBus_transmit s .idle _ _).trans (countAttempt_side _ a).transmit
  rcases headConcluded_transmit ((s.setBus { s.bus with activity := .idle }).countAttempt a) e rest a with h | ⟨u, hu, h⟩
  · exact .inl (hcount.trans h)
  · exact .inr ⟨u, hcount.trans hu, h⟩

theorem edgeFlushed_side (s : State) (i : Fin 16) : SourceSide s (s.edgeFlushed i) := by
  have h := (setSource_side s i { s.source i with
    pendingCount := (limitedSum (s.source i).pendingCount (s.source i).nextCount).1
    nextCount := 0
    edgeState := .owed }).trans (countTimes_side _ .lostEdges (limitedSum (s.source i).pendingCount (s.source i).nextCount).2)
  unfold State.edgeFlushed
  dsimp only
  split
  · exact h
  · exact h.trans (latch_side _ _)

theorem tellFlushed_transmit (s : State) (e : TxEntry) : TransmitSide s (s.tellFlushed e) := by
  unfold State.tellFlushed
  split
  · split
    · exact TransmitSide.refl _
    · exact setRecordState_transmit _ _ _ _
  · split
    · exact (edgeFlushed_side _ _).transmit
    · exact TransmitSide.refl _
  · exact setReply_transmit _ _
  · split
    · exact setBeacon_transmit _ _
    · exact TransmitSide.refl _

theorem flush_transmit (s : State) : TransmitSide s s.flush :=
  ((setTx_transmit s []).trans (foldl_rel TransmitSide.refl TransmitSide.trans _ tellFlushed_transmit s.tx _)).trans
    (setBeacon_transmit _ _)

/-! ## The entry onto the bus -/

theorem goOnline_eq (s : State) (sig : Signature) :
    s.goOnline sig =
      { s with
        loader := { s.loader with signature := some sig, timer := none, port := .deselected }
        roster := upd s.roster (addrIdx s.address) { look s.roster (addrIdx s.address) with signature := some sig }
        faults := { s.faults with withdrawn := false }
        bus := { s.bus with
          station := .listening, standing := 15, holdOff := some (s.time + 2 * s.bus.beaconUs), phase := .waitingIdle }
        outs := s.outs.map (fun l => { l with forcedSafe := false })
        beacon := { s.beacon with timer := some (s.time + s.bus.beaconUs) } } := by
  unfold State.goOnline
  rw [comeOnline_eq, enterListening_eq]
  simp only [State.moveTo, State.setForced, State.unlatch, State.setBus, State.setFaults, State.setBeacon,
    State.setLoader, State.setRoster, FaultSet.put, forcedIn]

/-! ## A validation that refuses nothing -/

theorem firstRefused_eq_none_iff {n : Nat} (table : BitVec 3) (bad : Fin n → Bool) :
    firstRefused table bad = none ↔ ∀ i, bad i = false := by
  simp [firstRefused]

theorem validate_eq_none_iff (img : List Byte) :
    validate img = none ↔ checkHeader img = none ∧ (∀ i, sourceRefused img i = false) ∧ (∀ k, subRefused img k = false) ∧
      (∀ p, profileRefused img p = false) ∧ (∀ g, genRefused img g = false) ∧ ∀ c, counterRefused img c = false := by
  unfold validate
  cases hh : checkHeader img with
  | some i => simp
  | none => simp [firstRefused_eq_none_iff]

theorem imageCounter_inRange {img : List Byte} (hv : validate img = none) (c : Fin 4) : (imageCounter img c).InRange := by
  obtain ⟨_, _, _, _, _, hc⟩ := (validate_eq_none_iff img).1 hv
  have hne : (imageCounter img c).terminal ≠ 0 := by simpa [counterRefused] using hc c
  have hpos : 0 < (imageCounter img c).terminal.toNat := by bv_omega
  have hzero : (imageCounter img c).value.toNat = 0 := rfl
  refine ⟨hpos, ?_⟩
  split <;> omega

/-! ## The counters -/

theorem Counter.counted_inRange {k : Counter} (n : Nat) (h : k.InRange) :
    ({ k with value := k.counted n } : Counter).InRange := by
  obtain ⟨hT, hv⟩ := h
  refine ⟨hT, ?_⟩
  cases hm : k.stick with
  | true =>
    have hlt := k.terminal.isLt
    simp only [Counter.counted, hm, if_true, BitVec.toNat_ofNat]
    exact (Nat.mod_le _ _).trans (Nat.min_le_right _ _)
  | false =>
    simp only [Counter.counted_wrap_toNat hm hT, Bool.false_eq_true, if_false]
    exact Nat.mod_lt _ hT

theorem Counter.reset_inRange {k : Counter} (h : k.InRange) : ({ k with value := 0 } : Counter).InRange := by
  obtain ⟨hT, _⟩ := h
  refine ⟨hT, ?_⟩
  split
  · exact Nat.zero_le _
  · exact hT

theorem CountersSafe.setCounter {s : State} {c : Fin 4} {k : Counter} (h : CountersSafe s) (hk : k.InRange) :
    CountersSafe (s.setCounter c k) := by
  intro d
  rw [State.counter_setCounter]
  split
  · exact hk
  · exact h d

/-- A change that leaves the counters keeps their range. -/
theorem CountersSafe.of_eq {s t : State} (h : CountersSafe s) (ht : t.counters = s.counters) : CountersSafe t := by
  intro c
  rw [State.counter, ht]
  exact h c

theorem SourceSide.counters_eq {s t : State} (h : SourceSide s t) : t.counters = s.counters := by
  obtain ⟨_, _, _, _, rfl⟩ := h; rfl
theorem GenSide.counters_eq {s t : State} (h : GenSide s t) : t.counters = s.counters := by
  obtain ⟨_, _, _, _, _, _, _, rfl⟩ := h; rfl
theorem TransmitSide.counters_eq {s t : State} (h : TransmitSide s t) : t.counters = s.counters := by
  obtain ⟨⟨_, _, _, _, _, _, _, _, _, _, _, _, rfl⟩, _⟩ := h; rfl

theorem takeHold_counters (s : State) (a : Addr) (ch : Channel) (k : InstNo) (snap : List (Fin 32)) :
    (s.takeHold a ch k snap).1.counters = s.counters := by
  unfold State.takeHold
  dsimp only
  split
  · split
    · rfl
    · split <;> rfl
  · split
    · rfl
    · split
      · rfl
      · split <;> rfl

theorem TableEffect.keeps_counters {s t : State} (h : TableEffect s t) (hs : CountersSafe s) : CountersSafe t := by
  cases h with
  | counts c n => exact hs.setCounter (Counter.counted_inRange n (hs c))
  | resets c => exact hs.setCounter (Counter.reset_inRange (hs c))
  | group => exact hs
  | hold a ch k snap => exact hs.of_eq (takeHold_counters _ _ _ _ _)
  | duty j k =>
    refine hs.of_eq ?_
    unfold State.dutyRan
    split <;> rfl
  | tests => exact hs
  | removes => exact hs

theorem Effect.keeps_counters {s t : State} (h : Effect A s t) (hs : CountersSafe s) : CountersSafe t := by
  cases h with
  | action h =>
    cases h with
    | source h => exact hs.of_eq h.side.counters_eq
    | gen h => exact hs.of_eq h.side.counters_eq
    | table h => exact h.keeps_counters hs
  | restarts =>
    intro c
    simp only [State.counter, State.cleared, State.reset, look_replicate]
    decide
  | readies img hv =>
    intro c
    rw [goOnline_eq]
    simp only [State.counter, State.configure, State.refreshOrphaned, State.setFaults_counters, look_ofFn]
    exact imageCounter_inRange hv c
  | admits => exact hs.of_eq (admitOwed_transmit _).counters_eq
  | offers => exact hs.of_eq (offerHead_transmit _).counters_eq
  | wins st => exact hs.of_eq (won_transmit _ st).counters_eq
  | loses => exact hs.of_eq (lost_transmit _).counters_eq
  | concludes st e rest a =>
    rcases concluded_transmit s e rest a with h | ⟨u, hu, h⟩
    · exact hs.of_eq h.counters_eq
    · exact h ▸ (hs.of_eq hu.counters_eq : CountersSafe u)
  | flushes => exact hs.of_eq (flush_transmit _).counters_eq
  | evaluates i =>
    refine hs.of_eq ?_
    unfold State.evaluateCondition
    dsimp only
    split <;> rfl
  | outside | bus | beacon | reply | withdrawsReport | roster | hears | ages | faultReset | quiets | marks | moves
  | loads => exact hs

/-! ## The roster -/

/-- A change that leaves every presence state and the own address keeps the one SELF entry. -/
theorem RosterSafe.of_eq {s t : State} (h : RosterSafe s)
    (hst : ∀ a, (look t.roster a).state = (look s.roster a).state) (hadr : t.address = s.address) : RosterSafe t := by
  intro a
  rw [hst, hadr]
  exact h a

theorem ActionSide.roster_eq {s t : State} (h : ActionSide s t) : t.roster = s.roster ∧ t.address = s.address := by
  obtain ⟨_, _, _, _, _, _, _, _, _, _, rfl⟩ := h
  exact ⟨rfl, rfl⟩

theorem TransmitSide.roster_eq {s t : State} (h : TransmitSide s t) : t.roster = s.roster ∧ t.address = s.address := by
  obtain ⟨⟨_, _, _, _, _, _, _, _, _, _, _, _, rfl⟩, _⟩ := h
  exact ⟨rfl, rfl⟩

theorem RosterSafe.of_same {s t : State} (h : RosterSafe s) (hr : t.roster = s.roster ∧ t.address = s.address) :
    RosterSafe t :=
  h.of_eq (fun a => by rw [hr.1]) hr.2

theorem addrIdx_inj {a b : Addr} : addrIdx a = addrIdx b ↔ a = b := by
  simp [addrIdx, Fin.ext_iff, BitVec.toNat_inj]

theorem look_map {α β : Type} {n : Nat} (f : α → β) (v : Vector α n) (i : Fin n) : look (v.map f) i = f (look v i) := by
  simp [look, Vector.get_eq_getElem]

/-- Hearing a peer leaves the SELF entry. -/
theorem RosterSafe.hear {s : State} {f : Frame} (hs : RosterSafe s) (hf : f.sender ≠ s.address) :
    RosterSafe (s.hear f) := by
  intro a
  have ha := hs a
  change (look (upd s.roster _ _) a).state = .self ↔ a = addrIdx s.address
  rw [look_upd]
  split
  · next h =>
    have hne : a ≠ addrIdx s.address := fun ha' => hf (addrIdx_inj.1 (h.trans ha'))
    simp [RosterEntry.heard, hne]
  · exact ha

theorem RosterEntry.aged_state_self (e : RosterEntry) : e.aged.state = .self ↔ e.state = .self := by
  unfold RosterEntry.aged
  split
  · next h => split <;> simp [h]
  · rfl

theorem ageRoster_roster (s : State) : s.ageRoster.roster = s.roster.map RosterEntry.aged := rfl

theorem faultResetNow_roster (s : State) :
    s.faultResetNow.roster = s.roster.map (fun e => { e with freshJoins := 0 }) := rfl

theorem Effect.keeps_roster {s t : State} (h : Effect A s t) (hs : RosterSafe s) : RosterSafe t := by
  cases h with
  | action h => exact hs.of_same h.side.roster_eq
  | roster a e he =>
    refine hs.of_eq (fun b => ?_) rfl
    rw [State.setRoster_roster, look_upd]
    split
    · next hab => rw [he, hab]
    · rfl
  | hears f hf => exact hs.hear hf
  | ages =>
    intro a
    rw [ageRoster_roster, look_map, RosterEntry.aged_state_self]
    exact hs a
  | faultReset =>
    refine hs.of_eq (fun a => ?_) rfl
    rw [faultResetNow_roster, look_map]
  | admits => exact hs.of_same (admitOwed_transmit _).roster_eq
  | offers => exact hs.of_same (offerHead_transmit _).roster_eq
  | wins st => exact hs.of_same (won_transmit _ st).roster_eq
  | loses => exact hs.of_same (lost_transmit _).roster_eq
  | concludes st e rest a =>
    rcases concluded_transmit s e rest a with h | ⟨u, hu, h⟩
    · exact hs.of_same h.roster_eq
    · exact h ▸ (hs.of_same hu.roster_eq : RosterSafe u)
  | flushes => exact hs.of_same (flush_transmit _).roster_eq
  | restarts adr =>
    intro a
    simp only [State.cleared, look_ofFn, RosterEntry.reset]
    split
    · next h => exact ⟨fun _ => Fin.ext h.symm, fun _ => rfl⟩
    · next h => exact ⟨fun hc => by simp at hc, fun ha => absurd (congrArg Fin.val ha).symm h⟩
  | readies img =>
    rw [goOnline_eq]
    refine hs.of_eq (fun a => ?_) rfl
    change (look (upd s.roster _ _) a).state = (look s.roster a).state
    rw [look_upd]
    split
    · next h => rw [← h]; rfl
    · rfl
  | evaluates i =>
    refine hs.of_same ?_
    unfold State.evaluateCondition
    dsimp only
    split <;> exact ⟨rfl, rfl⟩
  | outside | bus | beacon | reply | withdrawsReport | quiets | marks | moves | loads => exact hs

/-- Settles O55, effect by effect. -/
theorem stepKeepsCountersAndOneSelfEntry : Obligations.StepKeepsCountersAndOneSelfEntry := fun _ _ h =>
  ⟨(step_run h).keeps fun _ _ => Effect.keeps_counters, (step_run h).keeps fun _ _ => Effect.keeps_roster⟩

end Sys2Proof.Machine
end

section
/-! PROOF. What the action side does to the transmit list, and the invariants of the station state: the list empty off
the bus, the failures below 32, the defaults before READY, and the forced-safe flags. -/

namespace Sys2Proof.Machine

variable {A : Prop}

/-! ## What generators and tables leave alone -/

/-- Only the generators, the lines, the records, the tallies and the fault kind COLLISION differ. -/
def RunSide (s t : State) : Prop :=
  ∃ g o r n c, t = { s with gens := g, outs := o, slots := r, tallies := n, faults := { s.faults with collision := c } }

theorem RunSide.refl (s : State) : RunSide s s := ⟨_, _, _, _, _, rfl⟩

theorem RunSide.trans {s t u : State} (h : RunSide s t) (k : RunSide t u) : RunSide s u := by
  obtain ⟨_, _, _, _, _, rfl⟩ := h
  obtain ⟨_, _, _, _, _, rfl⟩ := k
  exact ⟨_, _, _, _, _, rfl⟩

theorem setGen_runSide (s : State) (g : Fin 8) (e : Generator) : RunSide s (s.setGen g e) := ⟨_, _, _, _, _, rfl⟩
theorem setOut_runSide (s : State) (o : Fin 8) (l : OutputLine) : RunSide s (s.setOut o l) := ⟨_, _, _, _, _, rfl⟩
theorem idleReport_runSide (s : State) (g : Fin 8) : RunSide s (s.idleReport g) := ⟨_, _, _, _, _, rfl⟩
theorem collision_runSide (s : State) : RunSide s ((s.count .collisions).latch .collision) := ⟨_, _, _, _, _, rfl⟩

theorem claim_runSide (s : State) (o g : Fin 8) : RunSide s (s.claim o g).1 := by
  unfold State.claim
  split
  · exact setOut_runSide _ _ _
  · exact collision_runSide s

theorem dropClaim_runSide (s : State) (g : Fin 8) : RunSide s (s.dropClaim g) := by
  unfold State.dropClaim State.releaseLine
  split
  · exact RunSide.refl _
  · split
    · exact setOut_runSide _ _ _
    · exact RunSide.refl _

theorem applyPending_runSide (s : State) (g : Fin 8) : RunSide s (s.applyPending g) := by
  unfold State.applyPending
  split
  · exact RunSide.refl _
  · exact setGen_runSide _ _ _

theorem startPulse_runSide (s : State) (g : Fin 8) : RunSide s (s.startPulse g) := by
  unfold State.startPulse
  dsimp only
  split
  · exact setGen_runSide _ _ _
  · exact (claim_runSide _ _ _).trans (setGen_runSide _ _ _)

theorem startRun_runSide (s : State) (g : Fin 8) : RunSide s (s.startRun g) := by
  unfold State.startRun
  dsimp only
  split
  · exact ((applyPending_runSide _ _).trans (setGen_runSide _ _ _)).trans (startPulse_runSide _ _)
  · exact (applyPending_runSide _ _).trans (setGen_runSide _ _ _)

theorem endRun_runSide (s : State) (g : Fin 8) : RunSide s (s.endRun g) :=
  ((dropClaim_runSide _ _).trans (setGen_runSide _ _ _)).trans (idleReport_runSide _ _)

theorem select_runSide (s : State) (g : Fin 8) (p : Fin 16) : RunSide s (s.select g p) := by
  unfold State.select
  split <;> exact setGen_runSide _ _ _

theorem GenEffect.runSide {s t : State} (h : GenEffect s t) : RunSide s t := by
  cases h with
  | starts => exact startRun_runSide _ _
  | ends => exact endRun_runSide _ _
  | holdsTrigger => exact setGen_runSide _ _ _
  | selects => exact select_runSide _ _ _
  | applies => exact applyPending_runSide _ _
  | pulses => exact startPulse_runSide _ _
  | pauses => exact (dropClaim_runSide _ _).trans (setGen_runSide _ _ _)
  | completes => exact (dropClaim_runSide _ _).trans (setGen_runSide _ _ _)
  | reports => exact idleReport_runSide _ _
  | static => exact setOut_runSide _ _ _

/-- Only the counters, the group enables, the acceptance table, the list, the tallies and the fault kind
ACCEPT-OVERFLOW differ. -/
def TableSide (s t : State) : Prop :=
  ∃ c g r a l n f, t = { s with counters := c, groups := g, slots := r, ageOrder := a, tx := l, tallies := n,
                                faults := { s.faults with acceptOverflow := f } }

theorem takeHold_tableSide (s : State) (a : Addr) (ch : Channel) (k : InstNo) (snap : List (Fin 32)) :
    TableSide s (s.takeHold a ch k snap).1 := by
  unfold State.takeHold
  dsimp only
  split
  · split
    · exact ⟨_, _, _, _, _, _, _, rfl⟩
    · split <;> exact ⟨_, _, _, _, _, _, _, rfl⟩
  · split
    · exact ⟨_, _, _, _, _, _, _, rfl⟩
    · split
      · exact ⟨_, _, _, _, _, _, _, rfl⟩
      · split <;> exact ⟨_, _, _, _, _, _, _, rfl⟩

theorem dutyRan_tableSide (s : State) (j : Fin 8) (k : Fin 32) : TableSide s (s.dutyRan j k) := by
  unfold State.dutyRan
  split <;> exact ⟨_, _, _, _, _, _, _, rfl⟩

theorem TableEffect.tableSide {s t : State} (h : TableEffect s t) : TableSide s t := by
  cases h with
  | hold => exact takeHold_tableSide _ _ _ _ _
  | duty => exact dutyRan_tableSide _ _ _
  | counts | resets | group | tests | removes => exact ⟨_, _, _, _, _, _, _, rfl⟩

/-! ## What an action does to the transmit list -/

@[simp] theorem noteLostEdge_tx (s : State) : s.noteLostEdge.tx = s.tx := rfl
@[simp] theorem startInst_tx (s : State) (i : Fin 16) (b : Bool) : (s.startInst i b).tx = s.tx := rfl
@[simp] theorem refreshOrphaned_tx (s : State) : s.refreshOrphaned.tx = s.tx := rfl

@[simp] theorem takeEdge_tx (s : State) (i : Fin 16) (d : Direction) : (s.takeEdge i d).tx = s.tx := by
  unfold State.takeEdge
  dsimp only
  split <;> rfl

@[simp] theorem conditionAsserts_tx (s : State) (i : Fin 16) : (s.conditionAsserts i).tx = s.tx := by
  unfold State.conditionAsserts
  dsimp only
  split <;> rfl

@[simp] theorem dropOffBus_tx (s : State) (i : Fin 16) : (s.dropOffBus i).tx = withdrawWaiting (.source i) s.tx := by
  unfold State.dropOffBus
  dsimp only
  split
  · rfl
  · split <;> rfl

@[simp] theorem quorumReached_tx (s : State) (i : Fin 16) : (s.quorumReached i).tx = giveUp (.source i) s.tx := by
  unfold State.quorumReached
  dsimp only
  split
  · rfl
  · split
    · split <;> rfl
    · rfl

theorem conditionDrops_tx (s : State) (i : Fin 16) :
    (s.conditionDrops i).tx = s.tx ∨ (s.conditionDrops i).tx = withdrawWaiting (.source i) s.tx := by
  unfold State.conditionDrops
  dsimp only
  split
  · exact .inl rfl
  · exact .inl rfl
  · split
    · exact .inl rfl
    · exact .inr (dropOffBus_tx _ i)
  all_goals exact .inl rfl

theorem testQuorum_tx (s : State) (i : Fin 16) :
    (s.testQuorum i).tx = s.tx ∨ (s.testQuorum i).tx = giveUp (.source i) s.tx := by
  unfold State.testQuorum
  split
  · exact .inr (quorumReached_tx s i)
  · exact .inl rfl

theorem releaseAt_tx (s : State) (i : Fin 16) (a : Addr) (k : InstNo) :
    (s.releaseAt i a k).tx = s.tx ∨ (s.releaseAt i a k).tx = giveUp (.source i) s.tx := by
  unfold State.releaseAt
  dsimp only
  repeat' split
  case isFalse.isFalse.isFalse.isFalse.isFalse.isFalse.isTrue => exact testQuorum_tx (s.setSource i _) i
  all_goals exact .inl rfl

theorem waiveAt_tx (s : State) (i : Fin 16) (a : Addr) :
    (s.waiveAt i a).tx = s.tx ∨ (s.source i).isHold = true ∧ (s.waiveAt i a).tx = giveUp (.source i) s.tx := by
  unfold State.waiveAt
  dsimp only
  split
  · next hw =>
    have hhold : (s.source i).isHold = true := by
      simp only [SourceEntry.waives, Bool.and_eq_true] at hw
      exact hw.1.1.1.1
    split
    · exact .inl rfl
    · exact (testQuorum_tx (s.setSource i _) i).imp_right fun h => ⟨hhold, h⟩
  · exact .inl rfl

theorem takeHold_tx (s : State) (a : Addr) (ch : Channel) (k : InstNo) (snap : List (Fin 32)) :
    (s.takeHold a ch k snap).1.tx = s.tx ∨ ∃ j, (s.takeHold a ch k snap).1.tx = giveUp (.record j) s.tx := by
  unfold State.takeHold
  dsimp only
  split
  · split
    · exact .inl rfl
    · split <;> exact .inl rfl
  · next j _ =>
    split
    · exact .inl rfl
    · split
      · exact .inl rfl
      · split <;> exact .inr ⟨j, rfl⟩

/-- The producer `p` is a record, or a hold-mode entry. -/
def State.GivesUp (s : State) (p : Producer) : Prop :=
  (∃ j, p = .record j) ∨ ∃ i, p = .source i ∧ (s.source i).isHold = true

/-- An action changes the list only where a record or a hold-mode entry gives its entry up or withdraws it. -/
theorem ActionEffect.tx_cases {s t : State} (h : ActionEffect s t) :
    t.tx = s.tx ∨ ∃ p, s.GivesUp p ∧ (t.tx = giveUp p s.tx ∨ t.tx = withdrawWaiting p s.tx) := by
  cases h with
  | source h =>
    cases h with
    | edge i o d => exact .inl (takeEdge_tx s i d)
    | asserts i => exact .inl (conditionAsserts_tx s i)
    | drops i hi => exact (conditionDrops_tx s i).imp_right fun h => ⟨_, .inr ⟨i, rfl, hi⟩, .inr h⟩
    | release i a k hi => exact (releaseAt_tx s i a k).imp_right fun h => ⟨_, .inr ⟨i, rfl, hi⟩, .inl h⟩
    | waiver i a => exact (waiveAt_tx s i a).imp_right fun h => ⟨_, .inr ⟨i, rfl, h.1⟩, .inl h.2⟩
    | releaseExpiry i =>
      refine .inl ?_
      unfold State.releaseExpired
      dsimp only
      split <;> rfl
    | tallied | latched | unlatched | repeatExpiry => exact .inl rfl
  | gen h =>
    obtain ⟨_, _, _, _, _, rfl⟩ := h.runSide
    exact .inl rfl
  | table h =>
    cases h with
    | hold a ch k snap => exact (takeHold_tx s a ch k snap).imp_right fun ⟨j, h⟩ => ⟨_, .inl ⟨j, rfl⟩, .inl h⟩
    | duty j k =>
      refine .inl ?_
      unfold State.dutyRan
      split <;> rfl
    | removes j => exact .inr ⟨_, .inl ⟨j, rfl⟩, .inl rfl⟩
    | counts | resets | group | tests => exact .inl rfl

theorem ActionEffect.tx_nil {s t : State} (h : ActionEffect s t) (hs : s.tx = []) : t.tx = [] := by
  rcases h.tx_cases with ht | ⟨p, _, ht | ht⟩ <;> rw [ht, hs]
  · rfl
  · rfl

/-! ## Where nothing is admitted -/

theorem StationState.not_admits {st : StationState} (h1 : st ≠ .joining) (h2 : st ≠ .joined) (k : Kind) :
    st.admits k = false := by
  cases st <;> first | rfl | contradiction

theorem admitOwed_eq_self {s : State} (h1 : s.bus.station ≠ .joining) (h2 : s.bus.station ≠ .joined) :
    s.admitOwed = s := by
  have hone : ∀ e, s.admitOne e = s := fun e => by
    simp [State.admitOne, StationState.not_admits h1 h2]
  have hall : ∀ l : List TxEntry, l.foldl State.admitOne s = s := by
    intro l
    induction l with
    | nil => rfl
    | cons e l ih => rw [List.foldl_cons, hone, ih]
  exact hall _

theorem offerHead_nil {s : State} (h : s.tx = []) : s.offerHead = s := by
  unfold State.offerHead
  rw [h]

theorem won_nil {s : State} (st : BitVec 4) (h : s.tx = []) : s.won st = s := by
  unfold State.won
  rw [h]

theorem lost_nil {s : State} (h : s.tx = []) : s.lost = s := by
  unfold State.lost
  rw [h]

/-! ## The list empty off the bus (R130) -/

theorem TransmitSide.station_eq {s t : State} (h : TransmitSide s t) :
    t.bus.station = s.bus.station ∧ t.loader = s.loader := by
  obtain ⟨⟨_, _, _, _, _, _, _, _, _, _, _, _, rfl⟩, _⟩ := h
  exact ⟨rfl, rfl⟩

theorem ActionSide.bus_loader_eq {s t : State} (h : ActionSide s t) :
    t.bus = s.bus ∧ t.loader = s.loader ∧ t.maintenance = s.maintenance := by
  obtain ⟨_, _, _, _, _, _, _, _, _, _, rfl⟩ := h
  exact ⟨rfl, rfl, rfl⟩

/-- A change that keeps the station state and the loader, and an empty list empty. -/
theorem AdmissionSafe.of_eq {s t : State} (hs : AdmissionSafe s)
    (h : t.bus.station = s.bus.station ∧ t.loader.phase = s.loader.phase)
    (htx : s.bus.station ≠ .joining → s.bus.station ≠ .joined → s.tx = [] → t.tx = []) : AdmissionSafe t := by
  obtain ⟨hst, hl⟩ := h
  refine ⟨fun h1 h2 => ?_, fun h1 h2 => ?_⟩
  · rw [hst] at h1 h2
    exact htx h1 h2 (hs.1 h1 h2)
  · rw [hl] at h1 h2
    rw [hst]
    exact hs.2 h1 h2

theorem AdmissionSafe.ended_of_tx {s : State} (hs : AdmissionSafe s) (ht : s.tx ≠ []) : s.loader.phase.Ended := by
  by_contra hn
  exact ht (hs.before_end hn).1

/-- The station is on the bus, in a state that admits or with an empty list, and the loader has ended. -/
theorem AdmissionSafe.of_ended {s : State} (hl : s.loader.phase.Ended)
    (htx : s.bus.station ≠ .joining → s.bus.station ≠ .joined → s.tx = []) : AdmissionSafe s :=
  ⟨htx, fun h1 h2 => absurd hl (fun h => h.elim h1 h2)⟩

theorem ended_of_not_offline {s : State} (hs : AdmissionSafe s) (h : s.bus.station ≠ .offline) :
    s.loader.phase.Ended := by
  by_contra hn
  exact h (hs.before_end hn).2

theorem Effect.keeps_admission (hA : A) {s t : State} (h : Effect A s t) (hs : AdmissionSafe s) : AdmissionSafe t := by
  cases h with
  | action h =>
    obtain ⟨hb, hl, _⟩ := h.side.bus_loader_eq
    exact hs.of_eq ⟨by rw [hb], by rw [hl]⟩ fun _ _ => h.tx_nil
  | withdrawsReport => exact hs.of_eq ⟨rfl, rfl⟩ fun _ _ ht => by simp [State.withdrawEntry, ht, withdrawWaiting]
  | admits =>
    obtain ⟨hst, hl⟩ := (admitOwed_transmit s).station_eq
    exact hs.of_eq ⟨hst, by rw [hl]⟩ fun h1 h2 ht => by rw [admitOwed_eq_self h1 h2, ht]
  | offers =>
    obtain ⟨hst, hl⟩ := (offerHead_transmit s).station_eq
    exact hs.of_eq ⟨hst, by rw [hl]⟩ fun _ _ ht => by rw [offerHead_nil ht, ht]
  | wins st =>
    obtain ⟨hst, hl⟩ := (won_transmit s st).station_eq
    exact hs.of_eq ⟨hst, by rw [hl]⟩ fun _ _ ht => by rw [won_nil st ht, ht]
  | loses =>
    obtain ⟨hst, hl⟩ := (lost_transmit s).station_eq
    exact hs.of_eq ⟨hst, by rw [hl]⟩ fun _ _ ht => by rw [lost_nil ht, ht]
  | concludes st e rest a hact ht =>
    have hend := hs.ended_of_tx (by simp [ht])
    rcases concluded_transmit s e rest a with h | ⟨u, hu, h⟩
    · obtain ⟨hst, hl⟩ := h.station_eq
      exact hs.of_eq ⟨hst, by rw [hl]⟩ fun _ _ hnil => absurd hnil (by simp [ht])
    · obtain ⟨hst, hl⟩ := hu.station_eq
      rw [h]
      exact .of_ended (by change u.loader.phase.Ended; rwa [hl]) fun _ h2 => absurd rfl h2
  | quiets ht => exact hs.of_eq ⟨rfl, rfl⟩ fun _ _ h => h
  | marks => exact hs.of_eq ⟨rfl, rfl⟩ fun _ _ ht => by simp [ht]
  | flushes =>
    obtain ⟨hst, hl⟩ := (flush_transmit s).station_eq
    exact hs.of_eq ⟨hst, by rw [hl]⟩ fun _ _ _ => (flush_bus_tx s).2
  | moves st htx h =>
    exact .of_ended ((h hA).elim (ended_of_not_offline hs) id) fun h1 h2 => htx hA h1 h2
  | restarts => exact ⟨fun _ _ => rfl, fun _ _ => rfl⟩
  | loads l h =>
    rcases h with h | ⟨hl, _⟩
    · exact hs.of_eq ⟨rfl, h⟩ fun _ _ h => h
    · obtain ⟨ht, hoff⟩ := hs.before_end hl
      exact ⟨fun _ _ => ht, fun _ _ => hoff⟩
  | readies img hv hl h =>
    rw [goOnline_eq]
    exact .of_ended (.inl rfl) fun _ _ => (h hA).1
  | evaluates i =>
    unfold State.evaluateCondition
    dsimp only
    split <;> exact hs.of_eq ⟨rfl, rfl⟩ fun _ _ h => h
  | outside | bus | beacon | reply | roster | hears | ages | faultReset => exact hs.of_eq ⟨rfl, rfl⟩ fun _ _ h => h

/-! ## The consecutive-failure count (R139) -/

theorem TransmitSide.failures_eq {s t : State} (h : TransmitSide s t) : t.bus.failures = s.bus.failures := by
  obtain ⟨⟨_, _, _, _, _, _, _, _, _, _, _, _, rfl⟩, _⟩ := h
  rfl

theorem FailuresSafe.of_eq {s t : State} (hs : FailuresSafe s) (h : t.bus.failures = s.bus.failures) : FailuresSafe t := by
  rw [FailuresSafe, h]
  exact hs

theorem Effect.keeps_failures {s t : State} (h : Effect A s t) (hs : FailuresSafe s) : FailuresSafe t := by
  cases h with
  | action h => exact hs.of_eq (by rw [h.side.bus_eq])
  | bus standing n fresh holdOff phase stopped answer h => exact h hs
  | admits => exact hs.of_eq (admitOwed_transmit s).failures_eq
  | offers => exact hs.of_eq (offerHead_transmit s).failures_eq
  | wins st => exact hs.of_eq (won_transmit s st).failures_eq
  | loses => exact hs.of_eq (lost_transmit s).failures_eq
  | concludes st e rest a =>
    rcases concluded_transmit s e rest a with h | ⟨u, hu, h⟩
    · exact hs.of_eq h.failures_eq
    · exact h ▸ (hs.of_eq hu.failures_eq : FailuresSafe u)
  | flushes => exact hs.of_eq (flush_transmit s).failures_eq
  | restarts => exact (by decide : (0 : Nat) < 32)
  | readies img =>
    rw [goOnline_eq]
    exact hs
  | evaluates i =>
    refine hs.of_eq ?_
    unfold State.evaluateCondition
    dsimp only
    split <;> rfl
  | outside | beacon | reply | withdrawsReport | roster | hears | ages | faultReset | quiets | marks | moves | loads =>
    exact hs

/-! ## The defaults before READY (R140, R152, R184) -/

/-- The fields of which DefaultsSafe speaks. -/
def State.defaults (s : State) : LoaderPhase × Byte × BitVec 4 × Bool × Bool × Option Addr :=
  (s.loader.phase, s.bus.beaconInterval, s.bus.retryLimit, s.bus.safeOnWithdraw, s.bus.requireCommonImage, s.maintenance)

theorem DefaultsSafe.of_eq {s t : State} (hs : DefaultsSafe s) (h : t.defaults = s.defaults) : DefaultsSafe t := by
  simp only [State.defaults, Prod.mk.injEq] at h
  obtain ⟨hp, hb, hr, hw, hi, hm⟩ := h
  rw [DefaultsSafe, hp, hb, hr, hw, hi, hm]
  exact hs

theorem TransmitSide.defaults_eq {s t : State} (h : TransmitSide s t) : t.defaults = s.defaults := by
  obtain ⟨⟨_, _, _, _, _, _, _, _, _, _, _, _, rfl⟩, _⟩ := h
  rfl

theorem ActionSide.defaults_eq {s t : State} (h : ActionSide s t) : t.defaults = s.defaults := by
  obtain ⟨_, _, _, _, _, _, _, _, _, _, rfl⟩ := h
  rfl

theorem Effect.keeps_defaults {s t : State} (h : Effect A s t) (hs : DefaultsSafe s) : DefaultsSafe t := by
  cases h with
  | action h => exact hs.of_eq h.side.defaults_eq
  | admits => exact hs.of_eq (admitOwed_transmit s).defaults_eq
  | offers => exact hs.of_eq (offerHead_transmit s).defaults_eq
  | wins st => exact hs.of_eq (won_transmit s st).defaults_eq
  | loses => exact hs.of_eq (lost_transmit s).defaults_eq
  | concludes st e rest a =>
    rcases concluded_transmit s e rest a with h | ⟨u, hu, h⟩
    · exact hs.of_eq h.defaults_eq
    · exact h ▸ (hs.of_eq hu.defaults_eq : DefaultsSafe u)
  | flushes => exact hs.of_eq (flush_transmit s).defaults_eq
  | restarts => exact fun _ => ⟨rfl, rfl, rfl, rfl, rfl⟩
  | loads l h =>
    intro hl
    rcases h with h | ⟨hn, _⟩
    · exact hs (h ▸ hl)
    · exact hs fun hr => hn (.inl hr)
  | readies img =>
    rw [goOnline_eq]
    exact fun hl => absurd rfl hl
  | evaluates i =>
    refine hs.of_eq ?_
    unfold State.evaluateCondition
    dsimp only
    split <;> rfl
  | outside | bus | beacon | reply | withdrawsReport | roster | hears | ages | faultReset | quiets | marks | moves =>
    exact hs

/-- Settles O54, effect by effect. -/
theorem stepKeepsTheListEmptyOffTheBus : Obligations.StepKeepsTheListEmptyOffTheBus := fun _ _ h =>
  ⟨fun ha hf => ⟨(step_run h).keeps (fun _ _ => Effect.keeps_admission ha) ha,
    (step_run h).keeps (fun _ _ => Effect.keeps_failures) hf⟩,
   (step_run h).keeps fun _ _ => Effect.keeps_defaults⟩

/-! ## The forced-safe flags (R101) -/

/-- Every line keeps its forced-safe flag. -/
def SameForced (s t : State) : Prop := ∀ o, (t.out o).forcedSafe = (s.out o).forcedSafe

theorem SameForced.trans {s t u : State} (h : SameForced s t) (k : SameForced t u) : SameForced s u :=
  fun o => (k o).trans (h o)

theorem SameForced.of_outs {s t : State} (h : t.outs = s.outs) : SameForced s t := fun o => by
  rw [State.out, h]
  rfl

theorem setOut_sameForced {s : State} {o : Fin 8} {l : OutputLine} (h : l.forcedSafe = (s.out o).forcedSafe) :
    SameForced s (s.setOut o l) := by
  intro p
  rw [State.out_setOut]
  split
  · next hop => rw [h, hop]
  · rfl

theorem claim_sameForced (s : State) (o g : Fin 8) : SameForced s (s.claim o g).1 := by
  unfold State.claim
  split
  · exact setOut_sameForced rfl
  · exact .of_outs rfl

theorem dropClaim_sameForced (s : State) (g : Fin 8) : SameForced s (s.dropClaim g) := by
  unfold State.dropClaim State.releaseLine
  split
  · exact .of_outs rfl
  · split
    · exact setOut_sameForced rfl
    · exact .of_outs rfl

theorem applyPending_outs (s : State) (g : Fin 8) : (s.applyPending g).outs = s.outs := by
  unfold State.applyPending
  split <;> rfl

theorem startPulse_sameForced (s : State) (g : Fin 8) : SameForced s (s.startPulse g) := by
  unfold State.startPulse
  dsimp only
  split
  · exact .of_outs rfl
  · exact (claim_sameForced s _ g).trans (.of_outs rfl)

theorem startRun_sameForced (s : State) (g : Fin 8) : SameForced s (s.startRun g) := by
  have hpend : SameForced s (s.applyPending g) := .of_outs (applyPending_outs s g)
  unfold State.startRun
  dsimp only
  split
  · exact (hpend.trans (.of_outs rfl)).trans (startPulse_sameForced _ g)
  · exact hpend.trans (.of_outs rfl)

theorem GenEffect.sameForced {s t : State} (h : GenEffect s t) : SameForced s t := by
  cases h with
  | starts g => exact startRun_sameForced s g
  | ends g => exact (dropClaim_sameForced s g).trans (.of_outs rfl)
  | holdsTrigger => exact .of_outs rfl
  | selects g p =>
    refine .of_outs ?_
    unfold State.select
    split <;> rfl
  | applies g => exact .of_outs (applyPending_outs s g)
  | pulses g => exact startPulse_sameForced s g
  | pauses g => exact (dropClaim_sameForced s g).trans (.of_outs rfl)
  | completes g => exact (dropClaim_sameForced s g).trans (.of_outs rfl)
  | reports => exact .of_outs rfl
  | static => exact setOut_sameForced rfl

theorem ActionEffect.sameForced {s t : State} (h : ActionEffect s t) : SameForced s t := by
  cases h with
  | source h =>
    obtain ⟨_, _, _, _, rfl⟩ := h.side
    exact .of_outs rfl
  | gen h => exact h.sameForced
  | table h =>
    obtain ⟨_, _, _, _, _, _, _, rfl⟩ := h.tableSide
    exact .of_outs rfl

theorem ForcedSafe.of_eq {s t : State} (hs : ForcedSafe s) (ho : SameForced s t)
    (hb : t.bus.station = s.bus.station ∧ t.bus.safeOnWithdraw = s.bus.safeOnWithdraw) : ForcedSafe t := by
  intro o
  rw [ho, hb.1, hb.2]
  exact hs o

theorem TransmitSide.forced_eq {s t : State} (h : TransmitSide s t) :
    SameForced s t ∧ t.bus.station = s.bus.station ∧ t.bus.safeOnWithdraw = s.bus.safeOnWithdraw := by
  obtain ⟨⟨_, _, _, _, _, _, _, _, _, _, _, _, rfl⟩, _⟩ := h
  exact ⟨.of_outs rfl, rfl, rfl⟩

theorem moveTo_forcedSafe (s : State) (st : StationState) : ForcedSafe (s.moveTo st) := by
  intro o
  have houts : (s.moveTo st).outs =
      s.outs.map (fun (l : OutputLine) => { l with forcedSafe := forcedIn st s.bus.safeOnWithdraw }) := rfl
  rw [State.out, houts, look_map]
  rfl

theorem Effect.keeps_forced {s t : State} (h : Effect A s t) (hs : ForcedSafe s) : ForcedSafe t := by
  have htransmit : ∀ {u}, TransmitSide s u → ForcedSafe u := fun hu => hs.of_eq hu.forced_eq.1 hu.forced_eq.2
  cases h with
  | action h => exact hs.of_eq h.sameForced (by rw [h.side.bus_eq]; exact ⟨rfl, rfl⟩)
  | admits => exact htransmit (admitOwed_transmit s)
  | offers => exact htransmit (offerHead_transmit s)
  | wins st => exact htransmit (won_transmit s st)
  | loses => exact htransmit (lost_transmit s)
  | concludes st e rest a =>
    rcases concluded_transmit s e rest a with h | ⟨u, _, h⟩
    · exact htransmit h
    · exact h ▸ moveTo_forcedSafe u _
  | flushes => exact htransmit (flush_transmit s)
  | moves st => exact moveTo_forcedSafe s st
  | restarts =>
    intro o
    simp only [State.cleared, State.out, State.reset, look_replicate]
    rfl
  | readies img =>
    rw [goOnline_eq]
    intro o
    rw [State.out, look_map]
    rfl
  | evaluates i =>
    unfold State.evaluateCondition
    dsimp only
    split <;> exact hs
  | outside | bus | beacon | reply | withdrawsReport | roster | hears | ages | faultReset | quiets | marks | loads =>
    exact hs

/-- Settles O56, effect by effect. -/
theorem stepKeepsLinesForcedSafe : Obligations.StepKeepsLinesForcedSafe := fun _ _ hs h =>
  (step_run h).keeps (fun _ _ => Effect.keeps_forced) hs

end Sys2Proof.Machine
end

section
/-! PROOF. Pulses and runs of a generator, case by case, and the invariant of the generators and the claims (R74, R83,
R96, R97). -/

namespace Sys2Proof.Machine

variable {A : Prop}

/-! ## A pulse and a run by cases (R75, R77, R97) -/

/-- A generator at the start of a pulse, with the phase timer `t` (R77). -/
def Generator.pulsing (e : Generator) (t : Timer) (shadowed : Bool) : Generator :=
  { e with phase := .pulse, timer := t, shadowed := shadowed }

/-- The phase timer of a pulse that starts now (R77). -/
def State.widthTimer (s : State) (g : Fin 8) : Timer :=
  s.timerFor ((s.gen g).active.width.toNat * (s.gen g).active.unit.us)

theorem startPulse_of_no_target {s : State} {g : Fin 8} (h : (s.gen g).target = none) :
    s.startPulse g = s.setGen g ((s.gen g).pulsing (s.widthTimer g) false) := by
  simp only [State.startPulse, Generator.pulsing, State.widthTimer, h]

theorem startPulse_of_free {s : State} {g o : Fin 8} (h : (s.gen g).target = some o) (ho : (s.out o).owner = none) :
    s.startPulse g =
      (s.setOut o { s.out o with owner := some g }).setGen g ((s.gen g).pulsing (s.widthTimer g) false) := by
  simp only [State.startPulse, Generator.pulsing, State.widthTimer, State.claim, h, ho, Bool.not_true]

theorem startPulse_of_taken {s : State} {g o x : Fin 8} (h : (s.gen g).target = some o)
    (ho : (s.out o).owner = some x) :
    s.startPulse g =
      ((s.count .collisions).latch .collision).setGen g ((s.gen g).pulsing (s.widthTimer g) true) := by
  simp only [State.startPulse, Generator.pulsing, State.widthTimer, State.claim, h, ho, Bool.not_false]

/-- A generator with a pending profile copied (R75, R79, R88). -/
def Generator.applied (e : Generator) (profiles : Vector Profile 16) : Generator :=
  match e.pendingProfile with
  | none => e
  | some p => { e with active := look profiles p, activeNumber := p, pendingProfile := none }

theorem State.setGen_gen_self (s : State) (g : Fin 8) : s.setGen g (s.gen g) = s := by
  simp only [State.setGen, State.gen, upd_look_self]

theorem upd_upd {α : Type} {n : Nat} (v : Vector α n) (i : Fin n) (x y : α) : upd (upd v i x) i y = upd v i y := by
  simp [upd]

@[simp] theorem State.setGen_setGen (s : State) (g : Fin 8) (x y : Generator) :
    (s.setGen g x).setGen g y = s.setGen g y := by
  simp only [State.setGen, upd_upd]

theorem applyPending_eq (s : State) (g : Fin 8) : s.applyPending g = s.setGen g ((s.gen g).applied s.profiles) := by
  unfold State.applyPending Generator.applied
  cases (s.gen g).pendingProfile with
  | none => exact (s.setGen_gen_self g).symm
  | some p => rfl

/-- A generator at the start of a run, before its first phase (R75). -/
def Generator.running (e : Generator) (profiles : Vector Profile 16) : Generator :=
  { e.applied profiles with remaining := (e.applied profiles).active.pulses, pendingTrigger := false, shadowed := false }

theorem startRun_of_no_delay {s : State} {g : Fin 8} (h : ((s.gen g).applied s.profiles).active.delay = 0) :
    s.startRun g = (s.setGen g ((s.gen g).running s.profiles)).startPulse g := by
  simp only [State.startRun, applyPending_eq, State.gen_setGen_self, h, if_true, State.setGen_setGen]
  rfl

theorem startRun_of_delay {s : State} {g : Fin 8} (h : ((s.gen g).applied s.profiles).active.delay ≠ 0) :
    s.startRun g = s.setGen g { (s.gen g).running s.profiles with
      phase := .delay
      timer := s.timerFor (((s.gen g).applied s.profiles).active.delay.toNat *
        ((s.gen g).applied s.profiles).active.unit.us) } := by
  simp only [State.startRun, applyPending_eq, State.gen_setGen_self, h, if_false, State.setGen_setGen]
  rfl

theorem Profile.pulses_ne_zero (p : Profile) : p.pulses ≠ .pulses 0 := by
  unfold Profile.pulses
  split
  · simp
  · next h => simpa using h

/-! ## The invariant of one generator -/

/-- The generator fits its phase, and owns what ClaimsFit says. -/
def State.GenSafe (s : State) (g : Fin 8) : Prop :=
  (s.gen g).Fits ∧ ∀ o, (s.out o).owner = some g ↔
    ((s.gen g).phase = .pulse ∧ (s.gen g).target = some o ∧ (s.gen g).shadowed = false)

theorem generatorsSafe_iff (s : State) : GeneratorsSafe s ↔ ∀ g, s.GenSafe g :=
  ⟨fun h g => ⟨h.1 g, h.2 g⟩, fun h => ⟨fun g => (h g).1, fun g => (h g).2⟩⟩

/-- The other generators and what they own stay. -/
def SameOthers (g : Fin 8) (s t : State) : Prop :=
  ∀ x, x ≠ g → t.gen x = s.gen x ∧ ∀ o, (t.out o).owner = some x ↔ (s.out o).owner = some x

theorem SameOthers.trans {g : Fin 8} {s t u : State} (h : SameOthers g s t) (k : SameOthers g t u) :
    SameOthers g s u := fun x hx =>
  ⟨(k x hx).1.trans (h x hx).1, fun o => ((k x hx).2 o).trans ((h x hx).2 o)⟩

theorem SameOthers.keeps {g : Fin 8} {s t : State} (h : SameOthers g s t) (hs : GeneratorsSafe s) (hg : t.GenSafe g) :
    GeneratorsSafe t := by
  rw [generatorsSafe_iff] at hs ⊢
  intro x
  by_cases hx : x = g
  · exact hx ▸ hg
  · obtain ⟨hgen, hown⟩ := h x hx
    obtain ⟨hfit, hclaim⟩ := hs x
    exact ⟨hgen ▸ hfit, fun o => by rw [hown, hgen]; exact hclaim o⟩

theorem setGen_sameOthers (s : State) (g : Fin 8) (e : Generator) : SameOthers g s (s.setGen g e) := fun x hx =>
  ⟨by rw [State.gen_setGen, if_neg (Ne.symm hx)], fun _ => Iff.rfl⟩

/-- A line whose owner was `g` or none, and is `g` or none, is of no other generator. -/
theorem setOut_sameOthers {s : State} {g o : Fin 8} {l : OutputLine}
    (hs : (s.out o).owner = none ∨ (s.out o).owner = some g) (hl : l.owner = none ∨ l.owner = some g) :
    SameOthers g s (s.setOut o l) := by
  refine fun x hx => ⟨rfl, fun p => ?_⟩
  rw [State.out_setOut]
  split
  · next hop =>
    have hgx : ∀ {y : Option (Fin 8)}, y = none ∨ y = some g → y ≠ some x := by
      rintro y (rfl | rfl) <;> simp [Ne.symm hx]
    exact ⟨fun h => absurd h (hgx hl), fun h => absurd (hop ▸ h) (hgx hs)⟩
  · rfl

theorem dropClaim_sameOthers (s : State) (g : Fin 8) : SameOthers g s (s.dropClaim g) := by
  unfold State.dropClaim State.releaseLine
  split
  · exact fun _ _ => ⟨rfl, fun _ => Iff.rfl⟩
  · split
    · next h => exact setOut_sameOthers (.inr h) (.inl rfl)
    · exact fun _ _ => ⟨rfl, fun _ => Iff.rfl⟩

theorem startPulse_sameOthers (s : State) (g : Fin 8) : SameOthers g s (s.startPulse g) := by
  cases ht : (s.gen g).target with
  | none =>
    rw [startPulse_of_no_target ht]
    exact setGen_sameOthers s g _
  | some o =>
    cases ho : (s.out o).owner with
    | none =>
      rw [startPulse_of_free ht ho]
      exact (setOut_sameOthers (.inl ho) (.inr rfl)).trans (setGen_sameOthers _ g _)
    | some x =>
      rw [startPulse_of_taken ht ho]
      exact setGen_sameOthers ((s.count .collisions).latch .collision) g _

theorem startRun_sameOthers (s : State) (g : Fin 8) : SameOthers g s (s.startRun g) := by
  by_cases h : ((s.gen g).applied s.profiles).active.delay = 0
  · rw [startRun_of_no_delay h]
    exact (setGen_sameOthers s g _).trans (startPulse_sameOthers _ g)
  · rw [startRun_of_delay h]
    exact setGen_sameOthers s g _

/-- A generator that owns no line and has no pulse in progress that owns one. -/
theorem genSafe_setGen {s : State} {g : Fin 8} {e : Generator} (hfit : e.Fits) (hphase : e.phase ≠ .pulse)
    (hown : ∀ o, (s.out o).owner ≠ some g) : (s.setGen g e).GenSafe g := by
  rw [State.GenSafe, State.gen_setGen_self]
  exact ⟨hfit, fun o => ⟨fun h => absurd h (hown o), fun h => absurd h.1 hphase⟩⟩

theorem Generator.pulsing_fits {e : Generator} {n : Nat} {b : Bool} (hr : e.remaining ≠ .pulses 0)
    (hp : e.pendingTrigger = true → e.policy = .stack) : (e.pulsing (some n) b).Fits := by
  refine ⟨?_, ?_, fun h => ⟨by simp [Generator.pulsing], hp h⟩, fun _ => rfl⟩
  · simp [Generator.pulsing]
  · simpa [Generator.pulsing] using hr

/-- A pulse starts at a generator that owns no line. -/
theorem startPulse_genSafe {s : State} {g : Fin 8} (hown : ∀ o, (s.out o).owner ≠ some g)
    (hr : (s.gen g).remaining ≠ .pulses 0) (hp : (s.gen g).pendingTrigger = true → (s.gen g).policy = .stack) :
    (s.startPulse g).GenSafe g := by
  have hfit := fun n b => Generator.pulsing_fits (n := n) (b := b) hr hp
  cases ht : (s.gen g).target with
  | none =>
    rw [startPulse_of_no_target ht, State.GenSafe, State.gen_setGen_self]
    refine ⟨hfit _ _, fun o => ?_⟩
    simp only [Generator.pulsing, ht, reduceCtorEq, false_and, and_false, iff_false]
    exact hown o
  | some o =>
    cases ho : (s.out o).owner with
    | none =>
      rw [startPulse_of_free ht ho, State.GenSafe, State.gen_setGen_self]
      refine ⟨hfit _ _, fun p => ?_⟩
      have hout : (((s.setOut o { s.out o with owner := some g }).setGen g
          ((s.gen g).pulsing (s.widthTimer g) false)).out p).owner = if o = p then some g else (s.out p).owner := by
        change ((s.setOut o { s.out o with owner := some g }).out p).owner = _
        rw [State.out_setOut]
        split <;> rfl
      rw [hout]
      simp only [Generator.pulsing, ht, Option.some.injEq, true_and, and_true]
      split
      · next hop => simp [hop]
      · next hop => simp [hop, hown p]
    | some x =>
      rw [startPulse_of_taken ht ho, State.GenSafe, State.gen_setGen_self]
      refine ⟨hfit _ _, fun p => ?_⟩
      simp only [Generator.pulsing, Bool.true_eq_false, and_false, iff_false]
      exact hown p

theorem startRun_genSafe {s : State} {g : Fin 8} (hown : ∀ o, (s.out o).owner ≠ some g) :
    (s.startRun g).GenSafe g := by
  by_cases h : ((s.gen g).applied s.profiles).active.delay = 0
  · rw [startRun_of_no_delay h]
    refine startPulse_genSafe (s := s.setGen g _) hown ?_ ?_
    · rw [State.gen_setGen_self]
      exact Profile.pulses_ne_zero _
    · rw [State.gen_setGen_self]
      exact fun hf => by simp [Generator.running] at hf
  · rw [startRun_of_delay h]
    refine genSafe_setGen ⟨?_, ?_, ?_, ?_⟩ (by simp) hown
    · simp [State.timerFor]
    · simpa [Generator.running] using Profile.pulses_ne_zero _
    · simp [Generator.running]
    · simp [Generator.running]

theorem owner_ne_of_phase {s : State} {g : Fin 8} (hs : s.GenSafe g) (h : (s.gen g).phase ≠ .pulse) (o : Fin 8) :
    (s.out o).owner ≠ some g := fun ho => h (((hs.2 o).1 ho).1)

/-- A claim given back leaves the generator without a line: it could own its target only (R97, R98). -/
theorem dropClaim_owner_ne {s : State} {g : Fin 8} (hs : s.GenSafe g) (o : Fin 8) :
    ((s.dropClaim g).out o).owner ≠ some g := by
  intro ho
  unfold State.dropClaim State.releaseLine at ho
  split at ho
  · next ht =>
    have := ((hs.2 o).1 ho).2.1
    simp [ht] at this
  · next p ht =>
    split at ho
    · next hp =>
      rw [State.out_setOut] at ho
      split at ho
      · simp at ho
      · next hpo =>
        have := ((hs.2 o).1 ho).2.1
        simp_all
    · next hp =>
      have := ((hs.2 o).1 ho).2.1
      simp_all

theorem Generator.ended_fits (e : Generator) : e.ended.Fits := by
  simp [Generator.Fits, Generator.ended]

/-- Only fields of which the invariant does not speak differ. -/
theorem genSafe_setGen_same {s : State} {g : Fin 8} {e : Generator} (hs : s.GenSafe g)
    (h : (e.phase, e.timer, e.remaining, e.pendingTrigger, e.policy, e.shadowed, e.target) =
      ((s.gen g).phase, (s.gen g).timer, (s.gen g).remaining, (s.gen g).pendingTrigger, (s.gen g).policy,
        (s.gen g).shadowed, (s.gen g).target)) : (s.setGen g e).GenSafe g := by
  simp only [Prod.mk.injEq] at h
  obtain ⟨h1, h2, h3, h4, h5, h6, h7⟩ := h
  obtain ⟨hfit, hclaim⟩ := hs
  rw [State.GenSafe, State.gen_setGen_self, Generator.Fits, h1, h2, h3, h4, h5, h6, h7]
  exact ⟨hfit, hclaim⟩

theorem applied_same (e : Generator) (v : Vector Profile 16) :
    ((e.applied v).phase, (e.applied v).timer, (e.applied v).remaining, (e.applied v).pendingTrigger,
      (e.applied v).policy, (e.applied v).shadowed, (e.applied v).target) =
    (e.phase, e.timer, e.remaining, e.pendingTrigger, e.policy, e.shadowed, e.target) := by
  unfold Generator.applied
  split <;> rfl

theorem GenEffect.keeps_generators {s t : State} (h : GenEffect s t) (hs : GeneratorsSafe s) : GeneratorsSafe t := by
  have hsafe := (generatorsSafe_iff s).1 hs
  cases h with
  | starts g hp =>
    exact (startRun_sameOthers s g).keeps hs
      (startRun_genSafe (owner_ne_of_phase (hsafe g) (by simp [hp])))
  | ends g =>
    have hend : GeneratorsSafe ((s.dropClaim g).setGen g ((s.dropClaim g).gen g).ended) :=
      ((dropClaim_sameOthers s g).trans (setGen_sameOthers _ g _)).keeps hs
        (genSafe_setGen (Generator.ended_fits _) (by simp [Generator.ended]) (dropClaim_owner_ne (hsafe g)))
    exact hend
  | holdsTrigger g hne hp =>
    refine (setGen_sameOthers s g _).keeps hs ?_
    obtain ⟨⟨ht, hr, _, hsh⟩, hclaim⟩ := hsafe g
    rw [State.GenSafe, State.gen_setGen_self]
    exact ⟨⟨ht, hr, fun _ => ⟨hne, hp⟩, hsh⟩, hclaim⟩
  | selects g p =>
    unfold State.select
    split <;> exact (setGen_sameOthers s g _).keeps hs (genSafe_setGen_same (hsafe g) rfl)
  | applies g =>
    rw [applyPending_eq]
    exact (setGen_sameOthers s g _).keeps hs (genSafe_setGen_same (hsafe g) (applied_same _ _))
  | pulses g hp =>
    have hnp : (s.gen g).phase ≠ .pulse ∧ (s.gen g).phase ≠ .idle := by rcases hp with hp | hp <;> simp [hp]
    obtain ⟨_, hr, hpend, _⟩ := (hsafe g).1
    exact (startPulse_sameOthers s g).keeps hs (startPulse_genSafe (owner_ne_of_phase (hsafe g) hnp.1)
      (fun h0 => hnp.2 (hr.2 h0)) (fun h => (hpend h).2))
  | pauses g r hp hr =>
    refine ((dropClaim_sameOthers s g).trans (setGen_sameOthers _ g _)).keeps hs ?_
    obtain ⟨_, _, hpend, _⟩ := (hsafe g).1
    refine genSafe_setGen ⟨?_, ?_, ?_, ?_⟩ (by simp) (dropClaim_owner_ne (hsafe g))
    · simp [State.timerFor]
    · simpa using hr
    · intro h
      rw [dropClaim_gen] at h ⊢
      exact ⟨by simp, (hpend h).2⟩
    · simp
  | completes g =>
    exact ((dropClaim_sameOthers s g).trans (setGen_sameOthers _ g _)).keeps hs
      (genSafe_setGen (Generator.ended_fits _) (by simp [Generator.ended]) (dropClaim_owner_ne (hsafe g)))
  | reports => exact hs
  | static o b =>
    rw [generatorsSafe_iff]
    refine fun g => ⟨(hsafe g).1, fun p => ?_⟩
    have hown : ((s.setStatic o b).out p).owner = (s.out p).owner := by
      rw [State.setStatic, State.out_setOut]
      split
      · next hop => rw [← hop]
      · rfl
    rw [hown]
    exact (hsafe g).2 p

/-! ## The invariant along a step -/

/-- The generators and the owners of the lines stay. -/
def SameClaims (s t : State) : Prop := t.gens = s.gens ∧ ∀ o, (t.out o).owner = (s.out o).owner

theorem SameClaims.of_eq {s t : State} (hg : t.gens = s.gens) (ho : t.outs = s.outs) : SameClaims s t :=
  ⟨hg, fun o => by rw [State.out, ho]; rfl⟩

theorem GeneratorsSafe.of_same {s t : State} (hs : GeneratorsSafe s) (h : SameClaims s t) : GeneratorsSafe t := by
  have hgen : ∀ g, t.gen g = s.gen g := fun g => by rw [State.gen, h.1]; rfl
  refine ⟨fun g => by rw [hgen]; exact hs.1 g, fun g o => ?_⟩
  rw [h.2, hgen]
  exact hs.2 g o

theorem TransmitSide.sameClaims {s t : State} (h : TransmitSide s t) : SameClaims s t := by
  obtain ⟨⟨_, _, _, _, _, _, _, _, _, _, _, _, rfl⟩, _⟩ := h
  exact .of_eq rfl rfl

theorem moveTo_sameClaims (s : State) (st : StationState) : SameClaims s (s.moveTo st) := by
  refine ⟨rfl, fun o => ?_⟩
  have houts : (s.moveTo st).outs =
      s.outs.map (fun (l : OutputLine) => { l with forcedSafe := forcedIn st s.bus.safeOnWithdraw }) := rfl
  rw [State.out, houts, look_map]
  rfl

/-- Idle generators and lines without an owner. -/
theorem GeneratorsSafe.of_idle {s : State} (hg : ∀ g, (s.gen g).ended = s.gen g) (ho : ∀ o, (s.out o).owner = none) :
    GeneratorsSafe s := by
  refine ⟨fun g => hg g ▸ Generator.ended_fits _, fun g o => ?_⟩
  rw [ho, ← hg g]
  simp [Generator.ended]

theorem Effect.keeps_generators {s t : State} (h : Effect A s t) (hs : GeneratorsSafe s) : GeneratorsSafe t := by
  have htransmit : ∀ {u}, TransmitSide s u → GeneratorsSafe u := fun hu => hs.of_same hu.sameClaims
  cases h with
  | action h =>
    cases h with
    | source h =>
      obtain ⟨_, _, _, _, rfl⟩ := h.side
      exact hs
    | gen h => exact h.keeps_generators hs
    | table h =>
      obtain ⟨_, _, _, _, _, _, _, rfl⟩ := h.tableSide
      exact hs
  | admits => exact htransmit (admitOwed_transmit s)
  | offers => exact htransmit (offerHead_transmit s)
  | wins st => exact htransmit (won_transmit s st)
  | loses => exact htransmit (lost_transmit s)
  | concludes st e rest a =>
    rcases concluded_transmit s e rest a with h | ⟨u, hu, h⟩
    · exact htransmit h
    · exact h ▸ (htransmit hu).of_same (moveTo_sameClaims u _)
  | flushes => exact htransmit (flush_transmit s)
  | moves st => exact hs.of_same (moveTo_sameClaims s st)
  | restarts =>
    refine .of_idle (fun g => ?_) (fun o => ?_) <;>
      simp only [State.cleared, State.gen, State.out, State.reset, look_replicate] <;> rfl
  | readies img =>
    rw [goOnline_eq]
    refine .of_idle (fun g => ?_) (fun o => ?_)
    · simp only [State.gen, State.configure, State.refreshOrphaned, State.setFaults_gens, look_ofFn]
      rfl
    · simp only [State.out, State.configure, State.refreshOrphaned, State.setFaults_outs, look_map, look_ofFn]
      rfl
  | evaluates i =>
    unfold State.evaluateCondition
    dsimp only
    split <;> exact hs
  | outside | bus | beacon | reply | withdrawsReport | roster | hears | ages | faultReset | quiets | marks | loads =>
    exact hs

/-- Settles O57, effect by effect. -/
theorem stepKeepsGeneratorsAndClaims : Obligations.StepKeepsGeneratorsAndClaims := fun _ _ hs h =>
  (step_run h).keeps (fun _ _ => Effect.keeps_generators) hs

end Sys2Proof.Machine
end

section
/-! PROOF. The invariant of the acceptance table (R42): at most one record a sender and channel, of peers only, each
with 1 to 4 duties, and listed once in the age order. -/

namespace Sys2Proof.Machine

variable {A : Prop}

/-! ## Changes that keep every record's key -/

theorem map_key_eq {x y : Option AcceptRecord} (h : y.map AcceptRecord.key = x.map AcceptRecord.key) {r : AcceptRecord}
    (hr : y = some r) : ∃ q, x = some q ∧ q.key = r.key := by
  rw [hr, Option.map_some] at h
  exact Option.map_eq_some_iff.1 h.symm

theorem SameRecords.symm {s t : State} (h : SameRecords s t) : SameRecords t s := fun j => (h j).symm

theorem SameRecords.slot_none {s t : State} (h : SameRecords s t) (j : Fin 8) : t.slot j = none ↔ s.slot j = none := by
  rw [← Option.map_eq_none_iff (f := AcceptRecord.key), h j, Option.map_eq_none_iff]

theorem AcceptanceSafe.of_same {s t : State} (hs : AcceptanceSafe s) (h : SameRecords s t)
    (hadr : t.address = s.address) (hage : t.ageOrder = s.ageOrder) : AcceptanceSafe t := by
  obtain ⟨hsound, huniq, hnodup, hmem⟩ := hs
  have hkey : ∀ {j r}, t.slot j = some r →
      ∃ q, s.slot j = some q ∧ q.sender = r.sender ∧ q.channel = r.channel ∧ q.duties.length = r.duties.length := by
    intro j r hr
    obtain ⟨q, hq, hk⟩ := map_key_eq (h j) hr
    simp only [AcceptRecord.key, Prod.mk.injEq] at hk
    exact ⟨q, hq, hk⟩
  refine ⟨fun j r hr => ?_, fun i j q hq r hr hsend hch => ?_, hage ▸ hnodup, fun j => ?_⟩
  · obtain ⟨q, hq, hsend, _, hlen⟩ := hkey hr
    have := hsound j q hq
    rw [AcceptRecord.Sound, ← hsend, ← hlen, hadr]
    exact this
  · obtain ⟨q', hq', hqs, hqc, _⟩ := hkey hq
    obtain ⟨r', hr', hrs, hrc, _⟩ := hkey hr
    exact huniq i j q' hq' r' hr' (by rw [hqs, hrs, hsend]) (by rw [hqc, hrc, hch])
  · rw [hage, hmem, ne_eq, ne_eq, h.slot_none]

theorem AcceptanceSafe.of_slots {s t : State} (hs : AcceptanceSafe s)
    (h : t.slots = s.slots ∧ t.address = s.address ∧ t.ageOrder = s.ageOrder) : AcceptanceSafe t :=
  hs.of_same (fun j => by rw [State.slot, h.1]; rfl) h.2.1 h.2.2

theorem AcceptanceSafe.transmit {s t : State} (hs : AcceptanceSafe s) (h : TransmitSide s t) : AcceptanceSafe t := by
  have hsame := h.2
  obtain ⟨⟨_, _, _, _, _, _, _, _, _, _, _, _, rfl⟩, _⟩ := h
  exact hs.of_same hsame rfl rfl

theorem AcceptRecord.tested_key (r : AcceptRecord) : r.tested.key = r.key := by
  unfold AcceptRecord.tested
  split <;> rfl

theorem AcceptRecord.atIdle_key (r : AcceptRecord) (g : Fin 8) : (r.atIdle g).key = r.key := by
  rw [AcceptRecord.atIdle, AcceptRecord.tested_key]
  simp [AcceptRecord.key]

theorem idleReport_slot (s : State) (g j : Fin 8) :
    (s.idleReport g).slot j = (s.slot j).map (fun r => r.atIdle g) := look_map _ s.slots j

theorem idleReport_sameRecords (s : State) (g : Fin 8) : SameRecords s (s.idleReport g) := by
  intro j
  rw [idleReport_slot, Option.map_map]
  exact congrArg (fun f => (s.slot j).map f) (funext fun r => r.atIdle_key g)

theorem setSlot_sameRecords {s : State} {j : Fin 8} {x : Option AcceptRecord}
    (h : x.map AcceptRecord.key = (s.slot j).map AcceptRecord.key) : SameRecords s (s.setSlot j x) := by
  intro i
  rw [State.slot_setSlot]
  split
  · next hij => rw [h, hij]
  · rfl

/-! ## Generators at the table -/

theorem startPulse_slots (s : State) (g : Fin 8) : (s.startPulse g).slots = s.slots := by
  cases ht : (s.gen g).target with
  | none => rw [startPulse_of_no_target ht]; rfl
  | some o =>
    cases ho : (s.out o).owner with
    | none => rw [startPulse_of_free ht ho]; rfl
    | some x => rw [startPulse_of_taken ht ho]; rfl

theorem startRun_slots (s : State) (g : Fin 8) : (s.startRun g).slots = s.slots := by
  by_cases h : ((s.gen g).applied s.profiles).active.delay = 0
  · rw [startRun_of_no_delay h, startPulse_slots]
    rfl
  · rw [startRun_of_delay h]
    rfl

theorem dropClaim_slots (s : State) (g : Fin 8) : (s.dropClaim g).slots = s.slots := by
  unfold State.dropClaim State.releaseLine
  split
  · rfl
  · split <;> rfl

theorem SameRecords.of_slots {s t : State} (h : t.slots = s.slots) : SameRecords s t := fun j => by
  rw [State.slot, h]
  rfl

theorem GenEffect.sameRecords {s t : State} (h : GenEffect s t) : SameRecords s t := by
  cases h with
  | starts g => exact .of_slots (startRun_slots s g)
  | ends g => exact (SameRecords.of_slots (dropClaim_slots s g)).trans (idleReport_sameRecords _ g)
  | holdsTrigger => exact .of_slots rfl
  | selects g p =>
    refine .of_slots ?_
    unfold State.select
    split <;> rfl
  | applies g => exact .of_slots (by rw [applyPending_eq]; rfl)
  | pulses g => exact .of_slots (startPulse_slots s g)
  | pauses g => exact .of_slots (dropClaim_slots s g)
  | completes g => exact .of_slots (dropClaim_slots s g)
  | reports g => exact idleReport_sameRecords s g
  | static => exact .of_slots rfl

/-! ## Records made, superseded and removed -/

theorem mem_filter_ne {l : List (Fin 8)} {i j : Fin 8} : i ∈ l.filter (fun x => x != j) ↔ i ∈ l ∧ i ≠ j := by
  simp

/-- A record removed leaves the others (R45, R48, R50). -/
theorem AcceptanceSafe.removeRecord {s : State} (hs : AcceptanceSafe s) (j : Fin 8) :
    AcceptanceSafe (s.removeRecord j) := by
  obtain ⟨hsound, huniq, hnodup, hmem⟩ := hs
  have hslot : ∀ i, (s.removeRecord j).slot i = if j = i then none else s.slot i := fun i =>
    State.slot_setSlot s j i none
  have hsome : ∀ {i r}, (s.removeRecord j).slot i = some r → s.slot i = some r := by
    intro i r h
    rw [hslot] at h
    split at h
    · cases h
    · exact h
  refine ⟨fun i r hr => hsound i r (hsome hr), fun i k q hq r hr => huniq i k q (hsome hq) r (hsome hr),
    hnodup.filter _, fun i => ?_⟩
  change i ∈ s.ageOrder.filter (fun x => x != j) ↔ _
  rw [mem_filter_ne, hmem, hslot]
  split
  · next h => simp [h.symm]
  · next h => simp [Ne.symm h]

/-- A record made in a slot, when no other slot has its sender and channel (R42, R45). -/
theorem AcceptanceSafe.putRecord {s : State} (hs : AcceptanceSafe s) {j : Fin 8} {a : Addr} {ch : Channel} {k : InstNo}
    {d : List Duty} (ha : a ≠ s.address) (hd : 1 ≤ d.length ∧ d.length ≤ 4)
    (hother : ∀ i, i ≠ j → ∀ r ∈ s.slot i, ¬(r.sender = a ∧ r.channel = ch)) :
    AcceptanceSafe (s.putRecord j a ch k d) := by
  obtain ⟨hsound, huniq, hnodup, hmem⟩ := hs
  have hslot : ∀ i, (s.putRecord j a ch k d).slot i =
      if j = i then some { sender := a, channel := ch, inst := k, duties := d, state := .acting, releaseListed := false }
      else s.slot i := fun i => State.slot_setSlot s j i _
  refine ⟨fun i r hr => ?_, fun i l q hq r hr hsend hch => ?_, ?_, fun i => ?_⟩
  · rw [Option.mem_def, hslot] at hr
    split at hr
    · cases hr
      exact ⟨ha, hd⟩
    · exact hsound i r hr
  · rw [Option.mem_def, hslot] at hq hr
    split at hq <;> split at hr
    · next hi hl => rw [← hi, hl]
    · next hi hl =>
      cases hq
      exact absurd ⟨hsend.symm, hch.symm⟩ (hother l (Ne.symm hl) r hr)
    · next hi hl =>
      cases hr
      exact absurd ⟨hsend, hch⟩ (hother i (Ne.symm hi) q hq)
    · exact huniq i l q hq r hr hsend hch
  · refine List.Nodup.append (hnodup.filter _) (List.nodup_singleton j) ?_
    simp
  · change i ∈ s.ageOrder.filter (fun x => x != j) ++ [j] ↔ _
    rw [List.mem_append, mem_filter_ne, hmem, hslot, List.mem_singleton]
    split
    · next h => simp [h.symm]
    · next h => simp [Ne.symm h]

theorem dutyList_length (s : State) {snap : List (Fin 32)} (h : s.dutyList snap ≠ []) :
    1 ≤ (s.dutyList snap).length ∧ (s.dutyList snap).length ≤ 4 := by
  refine ⟨List.length_pos_iff.2 h, ?_⟩
  simp [State.dutyList]

theorem findRecord_eq_none_iff {s : State} {a : Addr} {ch : Channel} :
    s.findRecord a ch = none ↔ ∀ j, ∀ r ∈ s.slot j, ¬(r.sender = a ∧ r.channel = ch) := by
  simp only [State.findRecord, List.find?_eq_none, mem_indices, true_implies]
  refine forall_congr' fun j => ?_
  cases s.slot j <;> simp

theorem findRecord_eq_some {s : State} {a : Addr} {ch : Channel} {j : Fin 8} (h : s.findRecord a ch = some j) :
    ∃ r, s.slot j = some r ∧ r.sender = a ∧ r.channel = ch := by
  have hf := List.find?_some h
  cases hj : s.slot j with
  | none => simp [hj] at hf
  | some r => exact ⟨r, rfl, by simpa [hj] using hf⟩

theorem AcceptRecord.repeated_key (r : AcceptRecord) : r.repeated.key = r.key := by
  unfold AcceptRecord.repeated
  split <;> rfl

/-- A HOLD at the table (R41, R42, R44, R45). -/
theorem AcceptanceSafe.takeHold {s : State} (hs : AcceptanceSafe s) {a : Addr} (ha : a ≠ s.address) (ch : Channel)
    (k : InstNo) (snap : List (Fin 32)) : AcceptanceSafe (s.takeHold a ch k snap).1 := by
  unfold State.takeHold
  dsimp only
  split
  · next hnone =>
    split
    · exact hs
    · next hd =>
      split
      · exact hs.putRecord ha (dutyList_length s hd) fun i _ => findRecord_eq_none_iff.1 hnone i
      · exact hs.of_slots ⟨rfl, rfl, rfl⟩
  · next j hfound =>
    obtain ⟨r, hr, hsend, hch⟩ := findRecord_eq_some hfound
    rw [hr]
    dsimp only
    split
    · exact hs.of_same (setSlot_sameRecords (by rw [hr]; exact congrArg some r.repeated_key)) rfl rfl
    · split
      · exact hs.removeRecord j
      · next hd =>
        have hother : ∀ i, i ≠ j → ∀ q ∈ s.slot i, ¬(q.sender = a ∧ q.channel = ch) := fun i hi q hq h =>
          hi (hs.2.1 i j q hq r hr (h.1.trans hsend.symm) (h.2.trans hch.symm))
        exact AcceptanceSafe.putRecord (s := s.giveUpEntry (.record j)) (hs.of_slots ⟨rfl, rfl, rfl⟩) ha
          (dutyList_length s hd) hother

theorem dutyRan_sameRecords (s : State) (j : Fin 8) (k : Fin 32) : SameRecords s (s.dutyRan j k) := by
  unfold State.dutyRan
  split
  · exact fun _ => rfl
  · next r hr => exact setSlot_sameRecords (by rw [hr]; simp [AcceptRecord.key])

theorem testRecord_sameRecords (s : State) (j : Fin 8) : SameRecords s (s.testRecord j) := by
  refine setSlot_sameRecords ?_
  rw [Option.map_map]
  exact congrArg (fun f => (s.slot j).map f) (funext AcceptRecord.tested_key)

theorem ActionEffect.keeps_acceptance {s t : State} (h : ActionEffect s t) (hs : AcceptanceSafe s) :
    AcceptanceSafe t := by
  cases h with
  | source h =>
    obtain ⟨_, _, _, _, rfl⟩ := h.side
    exact hs
  | gen h =>
    have hsame := h.sameRecords
    obtain ⟨_, _, _, _, _, rfl⟩ := h.runSide
    exact hs.of_same hsame rfl rfl
  | table h =>
    cases h with
    | hold a ch k snap ha => exact hs.takeHold ha ch k snap
    | duty j k =>
      have hsame := dutyRan_sameRecords s j k
      refine hs.of_same hsame ?_ ?_ <;> unfold State.dutyRan <;> split <;> rfl
    | tests j => exact hs.of_same (testRecord_sameRecords s j) rfl rfl
    | removes j => exact hs.removeRecord j
    | counts | resets | group => exact hs

theorem Effect.keeps_acceptance {s t : State} (h : Effect A s t) (hs : AcceptanceSafe s) : AcceptanceSafe t := by
  cases h with
  | action h => exact h.keeps_acceptance hs
  | admits => exact hs.transmit (admitOwed_transmit s)
  | offers => exact hs.transmit (offerHead_transmit s)
  | wins st => exact hs.transmit (won_transmit s st)
  | loses => exact hs.transmit (lost_transmit s)
  | concludes st e rest a =>
    rcases concluded_transmit s e rest a with h | ⟨u, hu, h⟩
    · exact hs.transmit h
    · exact h ▸ (hs.transmit hu).of_slots ⟨rfl, rfl, rfl⟩
  | flushes => exact hs.transmit (flush_transmit s)
  | restarts adr rate time q =>
    have hslot : ∀ j, (s.cleared adr rate time q).slot j = none := fun j => look_replicate none j
    refine ⟨fun j r hr => ?_, fun i j q hq => ?_, List.nodup_nil, fun j => ?_⟩
    · cases (hslot j).symm.trans hr
    · cases (hslot i).symm.trans hq
    · have hage : (s.cleared adr rate time q).ageOrder = [] := rfl
      simp [hslot, hage]
  | readies img =>
    rw [goOnline_eq]
    exact hs.of_slots ⟨rfl, rfl, rfl⟩
  | evaluates i =>
    unfold State.evaluateCondition
    dsimp only
    split <;> exact hs
  | outside | bus | beacon | reply | withdrawsReport | roster | hears | ages | faultReset | quiets | marks | moves
  | loads => exact hs

/-- Settles O59, effect by effect. -/
theorem stepKeepsTheAcceptanceTable : Obligations.StepKeepsTheAcceptanceTable := fun _ _ hs h =>
  (step_run h).keeps (fun _ _ => Effect.keeps_acceptance) hs

end Sys2Proof.Machine
end

section
/-! PROOF. The invariant of the transmit list (R128, R129, R130). Its order is a property of the producers, kinds and
ON-BUS flags of the entries alone, and shrinking a list keeps it. -/

namespace Sys2Proof.Machine

variable {A : Prop}

/-! ## The order as a property of keys -/

/-- What the order of the list depends on. -/
def TxEntry.key (e : TxEntry) : Producer × Kind × Bool := (e.producer, e.kind, e.onBus)

theorem TxEntry.urgent_eq (e : TxEntry) : e.urgent = kindUrgent e.kind := by
  unfold TxEntry.urgent kindUrgent
  cases e.kind <;> rfl

/-- A list whose keys are among those of a list in order, in their order, is in order. -/
theorem TxInOrder.of_keys {l m : List TxEntry} (h : TxInOrder l) (hm : (m.map TxEntry.key).Sublist (l.map TxEntry.key)) :
    TxInOrder m := by
  obtain ⟨hlen, hnodup, htail, hpair⟩ := h
  have hfilter : ∀ x : List TxEntry, (x.filter fun e => !e.onBus).map TxEntry.key =
      (x.map TxEntry.key).filter fun k => !k.2.2 := fun x => by
    rw [List.filter_map]
    rfl
  refine ⟨?_, ?_, ?_, ?_⟩
  · simpa using hm.length_le.trans (by simpa using hlen)
  · have hsub := hm.map Prod.fst
    rw [List.map_map, List.map_map] at hsub
    exact hsub.nodup hnodup
  · intro e he
    have hkey : e.key ∈ (m.map TxEntry.key).tail := by
      rw [← List.map_tail]
      exact List.mem_map_of_mem he
    have hmem := hm.tail.subset hkey
    rw [← List.map_tail, List.mem_map] at hmem
    obtain ⟨f, hf, hfe⟩ := hmem
    simp only [TxEntry.key, Prod.mk.injEq] at hfe
    exact hfe.2.2 ▸ htail f hf
  · have hkeys : ∀ x : List TxEntry, x.Pairwise (fun a b => b.urgent = true → a.urgent = true) ↔
        (x.map TxEntry.key).Pairwise (fun a b => kindUrgent b.2.1 = true → kindUrgent a.2.1 = true) := fun x => by
      rw [List.pairwise_map]
      simp only [TxEntry.urgent_eq, TxEntry.key]
    rw [hkeys, hfilter] at hpair ⊢
    exact hpair.sublist (hm.filter _)

/-- The head is ON-BUS. -/
def HeadOnBus (l : List TxEntry) : Prop := l.head?.map TxEntry.onBus = some true

@[simp] theorem headOnBus_nil : ¬HeadOnBus [] := by simp [HeadOnBus]
@[simp] theorem headOnBus_cons (e : TxEntry) (l : List TxEntry) : HeadOnBus (e :: l) ↔ e.onBus = true := by
  simp [HeadOnBus]

theorem txInOrder_nil : TxInOrder [] := ⟨by simp, by simp, by simp, by simp⟩

theorem txSafe_iff (s : State) : TxSafe s ↔ TxInOrder s.tx ∧ (HeadOnBus s.tx ↔ s.bus.activity ≠ .idle) := Iff.rfl

theorem not_headOnBus {l : List TxEntry} (h : ∀ e ∈ l, e.onBus = false) : ¬HeadOnBus l := by
  cases l with
  | nil => simp
  | cons e l => simp [h e]

/-! ## Giving up, withdrawing, marking -/

theorem giveUp_keys (p : Producer) (l : List TxEntry) :
    ((giveUp p l).map TxEntry.key).Sublist (l.map TxEntry.key) := by
  induction l with
  | nil => exact List.Sublist.refl _
  | cons e l ih =>
    rw [giveUp]
    split
    · split
      · exact List.Sublist.refl _
      · exact List.sublist_cons_self _ _
    · exact ih.cons_cons _

theorem withdrawWaiting_keys (p : Producer) (l : List TxEntry) :
    ((withdrawWaiting p l).map TxEntry.key).Sublist (l.map TxEntry.key) :=
  (List.filter_sublist).map _

theorem headOnBus_giveUp {p : Producer} {l : List TxEntry} (h : ∀ e ∈ l.tail, e.onBus = false) :
    HeadOnBus (giveUp p l) ↔ HeadOnBus l := by
  cases l with
  | nil => rfl
  | cons e l =>
    rw [giveUp]
    split
    · cases he : e.onBus with
      | true => simp [he]
      | false => simp [he, not_headOnBus (l := l) h]
    · simp

theorem headOnBus_withdrawWaiting {p : Producer} {l : List TxEntry} (h : ∀ e ∈ l.tail, e.onBus = false) :
    HeadOnBus (withdrawWaiting p l) ↔ HeadOnBus l := by
  cases l with
  | nil => rfl
  | cons e l =>
    cases he : e.onBus with
    | true => simp [withdrawWaiting, he]
    | false =>
      simp only [headOnBus_cons, he, Bool.false_eq_true, iff_false]
      refine not_headOnBus fun x hx => ?_
      rcases List.mem_cons.1 (List.mem_filter.1 hx).1 with rfl | hx
      · exact he
      · exact h x hx

/-- A change that shrinks the list and keeps its head's place on the bus. -/
theorem TxSafe.shrink {s t : State} (hs : TxSafe s) (hkeys : (t.tx.map TxEntry.key).Sublist (s.tx.map TxEntry.key))
    (hhead : HeadOnBus t.tx ↔ HeadOnBus s.tx) (hact : t.bus.activity = s.bus.activity) : TxSafe t :=
  ⟨hs.1.of_keys hkeys, by
    change HeadOnBus t.tx ↔ _
    rw [hhead, hact]
    exact hs.2⟩

theorem TxSafe.of_eq {s t : State} (hs : TxSafe s) (htx : t.tx = s.tx) (hact : t.bus.activity = s.bus.activity) :
    TxSafe t := hs.shrink (by rw [htx]) (by rw [htx]) hact

theorem TxSafe.gives {s t : State} (hs : TxSafe s) {p : Producer}
    (htx : t.tx = giveUp p s.tx ∨ t.tx = withdrawWaiting p s.tx) (hact : t.bus.activity = s.bus.activity) : TxSafe t := by
  have htail := hs.1.2.2.1
  rcases htx with htx | htx
  · exact hs.shrink (htx ▸ giveUp_keys p s.tx) (htx ▸ headOnBus_giveUp htail) hact
  · exact hs.shrink (htx ▸ withdrawWaiting_keys p s.tx) (htx ▸ headOnBus_withdrawWaiting htail) hact

/-! ## Places in a list in order -/

/-- Behind the urgent entries of a list in order stand normal ones only (R128). -/
theorem dropWhile_normal {l : List TxEntry} (h : l.Pairwise fun a b => b.urgent = true → a.urgent = true) :
    ∀ e ∈ l.dropWhile TxEntry.urgent, e.urgent = false := by
  induction l with
  | nil => simp
  | cons x l ih =>
    obtain ⟨hx, hl⟩ := List.pairwise_cons.1 h
    cases hu : x.urgent with
    | true => simpa [List.dropWhile, hu] using ih hl
    | false =>
      intro e he
      simp only [List.dropWhile, hu, List.mem_cons] at he
      rcases he with rfl | he
      · exact hu
      · by_contra hne
        simpa [hu] using hx e he (by simpa using hne)

/-- The place behind the urgent entries keeps the order, for an entry of either class. -/
theorem insertAfterUrgent_pairwise (e : TxEntry) {l : List TxEntry}
    (h : l.Pairwise fun a b => b.urgent = true → a.urgent = true) :
    (insertAfterUrgent e l).Pairwise fun a b => b.urgent = true → a.urgent = true := by
  rw [insertAfterUrgent_eq, List.pairwise_append]
  refine ⟨h.sublist (List.takeWhile_sublist _), List.pairwise_cons.2 ⟨fun b hb hu => ?_, h.sublist (List.dropWhile_sublist _)⟩,
    fun a ha b _ _ => List.mem_takeWhile_imp ha⟩
  simp [dropWhile_normal h b hb] at hu

theorem filter_waiting_eq_self {l : List TxEntry} (h : ∀ e ∈ l, e.onBus = false) :
    l.filter (fun e => !e.onBus) = l :=
  List.filter_eq_self.2 fun e he => by simp [h e he]

/-- A list of WAITING entries in order. -/
theorem txInOrder_waiting_iff {l : List TxEntry} (h : ∀ e ∈ l, e.onBus = false) :
    TxInOrder l ↔ l.length ≤ 8 ∧ (l.map TxEntry.producer).Nodup ∧
      l.Pairwise fun a b => b.urgent = true → a.urgent = true := by
  rw [TxInOrder, filter_waiting_eq_self h]
  exact ⟨fun ⟨h1, h2, _, h4⟩ => ⟨h1, h2, h4⟩, fun ⟨h1, h2, h4⟩ => ⟨h1, h2, fun e he => h e (List.mem_of_mem_tail he), h4⟩⟩

/-- The return of the head to WAITING keeps the order, and leaves no entry ON-BUS (R128). -/
theorem returnEntry_inOrder {e : TxEntry} {rest : List TxEntry} (h : TxInOrder (e :: rest)) :
    TxInOrder (returnEntry e rest) ∧ ∀ x ∈ returnEntry e rest, x.onBus = false := by
  obtain ⟨hlen, hnodup, htail, hpair⟩ := h
  have hperm := returnEntry_perm e rest
  have hwait : ∀ x ∈ returnEntry e rest, x.onBus = false := fun x hx => by
    rcases List.mem_cons.1 (hperm.mem_iff.1 hx) with rfl | hx
    · rfl
    · exact htail x hx
  have hrest : rest.Pairwise fun a b => b.urgent = true → a.urgent = true := by
    have hsub := hpair.sublist (((List.sublist_cons_self e rest)).filter _)
    rwa [filter_waiting_eq_self (l := rest) htail] at hsub
  refine ⟨(txInOrder_waiting_iff hwait).2 ⟨?_, ?_, ?_⟩, hwait⟩
  · rw [hperm.length_eq]
    exact hlen
  · exact ((hperm.map TxEntry.producer).nodup_iff).2 hnodup
  · unfold returnEntry
    split
    · next hu => exact List.pairwise_cons.2 ⟨fun _ _ _ => hu, hrest⟩
    · exact insertAfterUrgent_pairwise _ hrest

/-- A place as admission gives it (R128): the order stays, and so does the head's place on the bus. -/
theorem admitEntry_inOrder {e : TxEntry} {l : List TxEntry} (h : TxInOrder l) (hlen : l.length < 8)
    (he : e.onBus = false) (hp : ∀ x ∈ l, x.producer ≠ e.producer) :
    TxInOrder (admitEntry e l) ∧ (HeadOnBus (admitEntry e l) ↔ HeadOnBus l) := by
  obtain ⟨_, hnodup, htail, hpair⟩ := h
  have hperm := admitEntry_perm e l
  have hlength : (admitEntry e l).length ≤ 8 := by rw [admitEntry_length]; exact hlen
  have hprod : ((admitEntry e l).map TxEntry.producer).Nodup := by
    refine ((hperm.map TxEntry.producer).nodup_iff).2 (List.nodup_cons.2 ⟨?_, hnodup⟩)
    simpa using hp
  cases l with
  | nil =>
    have hone : admitEntry e [] = [e] := by unfold admitEntry admitUrgent; split <;> rfl
    rw [hone]
    exact ⟨⟨by simp, by simp, by simp, by simp [he]⟩, by simp [he]⟩
  | cons x l =>
    have hl : ∀ y ∈ l, y.onBus = false := htail
    cases hx : x.onBus with
    | true =>
      have hpl : l.Pairwise fun a b => b.urgent = true → a.urgent = true := by
        simpa [List.filter_cons, hx, filter_waiting_eq_self hl] using hpair
      obtain ⟨m, hm, hmp⟩ : ∃ m, admitEntry e (x :: l) = x :: m ∧ m.Perm (e :: l) ∧
          m.Pairwise fun a b => b.urgent = true → a.urgent = true := by
        unfold admitEntry
        split
        · exact ⟨insertAfterUrgent e l, by simp [admitUrgent, hx], insertAfterUrgent_perm e l,
            insertAfterUrgent_pairwise e hpl⟩
        · next hu =>
          refine ⟨l ++ [e], rfl, List.perm_append_comm, List.pairwise_append.2 ⟨hpl, by simp, fun a _ b hb hbu => ?_⟩⟩
          simp only [List.mem_singleton] at hb
          exact absurd (hb ▸ hbu) hu
      have hmwait : ∀ y ∈ m, y.onBus = false := fun y hy => by
        rcases List.mem_cons.1 (hmp.1.mem_iff.1 hy) with rfl | hy
        · exact he
        · exact hl y hy
      refine ⟨⟨hlength, hprod, ?_, ?_⟩, ?_⟩
      · rw [hm]
        exact hmwait
      · simpa [hm, List.filter_cons, hx, filter_waiting_eq_self hmwait] using hmp.2
      · simp [hm]
    | false =>
      have hall : ∀ y ∈ x :: l, y.onBus = false := by
        intro y hy
        rcases List.mem_cons.1 hy with rfl | hy
        · exact hx
        · exact hl y hy
      have hpl : (x :: l).Pairwise fun a b => b.urgent = true → a.urgent = true := by
        rwa [filter_waiting_eq_self hall] at hpair
      have hwait : ∀ y ∈ admitEntry e (x :: l), y.onBus = false := fun y hy => by
        rcases List.mem_cons.1 (hperm.mem_iff.1 hy) with rfl | hy
        · exact he
        · exact hall y hy
      refine ⟨(txInOrder_waiting_iff hwait).2 ⟨hlength, hprod, ?_⟩, ?_⟩
      · unfold admitEntry
        split
        · simpa [admitUrgent, hx] using insertAfterUrgent_pairwise e hpl
        · next hu =>
          refine List.pairwise_append.2 ⟨hpl, by simp, fun a _ b hb hbu => ?_⟩
          simp only [List.mem_singleton] at hb
          exact absurd (hb ▸ hbu) hu
      · simp [hx, not_headOnBus hwait]

/-! ## Admission, wins, returns and conclusions -/

@[simp] theorem tellAdmitted_tx (s : State) (e : TxEntry) : (s.tellAdmitted e).tx = s.tx := by
  unfold State.tellAdmitted
  split
  · rfl
  · split <;> rfl
  · rfl
  · split <;> rfl

@[simp] theorem tellAdmitted_bus (s : State) (e : TxEntry) : (s.tellAdmitted e).bus = s.bus := by
  unfold State.tellAdmitted
  split
  · rfl
  · split <;> rfl
  · rfl
  · split <;> rfl

theorem hasEntry_eq_false_iff {p : Producer} {l : List TxEntry} :
    hasEntry p l = false ↔ ∀ e ∈ l, e.producer ≠ p := by
  simp [hasEntry]

/-- What the arbiter asks of a demand (R128, R129, R130). -/
def State.Admissible (s : State) (e : TxEntry) : Prop :=
  s.tx.length < 8 ∧ s.bus.station.admits e.kind = true ∧ ∀ f ∈ s.tx, f.producer ≠ e.producer

theorem admitOne_of_admissible {s : State} {e : TxEntry} (h : s.Admissible e) :
    s.admitOne e = (s.setTx (admitEntry e s.tx)).tellAdmitted e := by
  have hp := hasEntry_eq_false_iff.2 h.2.2
  simp [State.admitOne, h.1, h.2.1, hp]

theorem admitOne_of_not {s : State} {e : TxEntry} (h : ¬s.Admissible e) : s.admitOne e = s := by
  unfold State.admitOne
  split
  · next hc =>
    simp only [Bool.and_eq_true, decide_eq_true_eq, Bool.not_eq_true', hasEntry_eq_false_iff] at hc
    exact absurd ⟨hc.1.1, hc.1.2, hc.2⟩ h
  · rfl

/-- A demand is an entry as admission makes it. -/
theorem demands_fresh {s : State} {e : TxEntry} (h : e ∈ s.demands) : ∃ k ch m p, e = TxEntry.fresh k ch m p := by
  simp only [State.demands, List.mem_append, List.mem_filterMap, Option.mem_toList] at h
  rcases h with ((((⟨j, _, h⟩ | ⟨i, _, h⟩) | h) | ⟨i, _, h⟩) | h) | h
  · unfold State.recordDemand at h
    split at h
    · split at h
      · cases h; exact ⟨_, _, _, _, rfl⟩
      · cases h
    · cases h
  · unfold State.holdDemand at h
    dsimp only at h
    split at h <;> cases h <;> exact ⟨_, _, _, _, rfl⟩
  · unfold State.joinDemand at h
    split at h <;> cases h
    exact ⟨_, _, _, _, rfl⟩
  · unfold State.edgeDemand at h
    split at h <;> cases h
    exact ⟨_, _, _, _, rfl⟩
  · unfold State.reportDemand at h
    split at h
    · split at h <;> cases h
      exact ⟨_, _, _, _, rfl⟩
    · cases h
  · unfold State.presenceDemand at h
    split at h <;> cases h
    exact ⟨_, _, _, _, rfl⟩

theorem TxSafe.admitOne {s : State} {e : TxEntry} (hs : TxSafe s) (he : e.onBus = false) : TxSafe (s.admitOne e) := by
  by_cases h : s.Admissible e
  · rw [admitOne_of_admissible h]
    obtain ⟨hlen, _, hp⟩ := h
    obtain ⟨hord, hhead⟩ := admitEntry_inOrder hs.1 hlen he hp
    rw [txSafe_iff, tellAdmitted_tx, tellAdmitted_bus]
    exact ⟨hord, hhead.trans hs.2⟩
  · rwa [admitOne_of_not h]

theorem TxSafe.admitOwed {s : State} (hs : TxSafe s) : TxSafe s.admitOwed := by
  have hfold : ∀ (l : List TxEntry) (t : State), (∀ e ∈ l, e.onBus = false) → TxSafe t →
      TxSafe (l.foldl State.admitOne t) := by
    intro l
    induction l with
    | nil => exact fun t _ ht => ht
    | cons e l ih => exact fun t h ht => ih _ (fun x hx => h x (by simp [hx])) (ht.admitOne (h e (by simp)))
  refine hfold _ s (fun e he => ?_) hs
  obtain ⟨_, _, _, _, rfl⟩ := demands_fresh he
  rfl

theorem TxSafe.offerHead {s : State} (hs : TxSafe s) : TxSafe s.offerHead := by
  unfold State.offerHead
  split
  · exact hs
  · next h t ht =>
    split
    · obtain ⟨hlen, hnodup, htail, hpair⟩ := hs.1
      rw [ht] at hlen hnodup htail hpair
      refine ⟨⟨hlen, hnodup, htail, ?_⟩, ?_⟩
      · exact hpair.sublist (by
          simp only [State.setBus_tx, State.setTx_tx, List.filter_cons, Bool.not_true, Bool.false_eq_true, if_false]
          split
          · exact List.sublist_cons_self _ _
          · exact List.Sublist.refl _)
      · change HeadOnBus _ ↔ _
        simp
    · exact hs

@[simp] theorem tellWon_tx (s : State) (e : TxEntry) : (s.tellWon e).tx = s.tx := by
  unfold State.tellWon
  split
  · split <;> rfl
  · split
    · rfl
    · split
      · obtain ⟨_, _, _, _, h⟩ := holdWon_side s ‹_› ‹_›
        unfold State.holdWon
        dsimp only
        split <;> rfl
      · rfl
    all_goals rfl
  · rfl
  · rfl

theorem headWon_keys {s : State} {e : TxEntry} {rest : List TxEntry} (h : s.tx = e :: rest) :
    ∃ f, (s.headWon e rest).tx = f :: rest ∧ f.key = e.key ∧ f.beenOnBus = true := by
  unfold State.headWon
  split
  · next hb => exact ⟨e, h, rfl, hb⟩
  · exact ⟨{ e with seq := some s.bus.sequence, beenOnBus := true, msg := s.capture e }, by rw [tellWon_tx]; rfl, rfl, rfl⟩

/-- The list after a win: the head stays, and a WAITING PRESENCE may go (R133, R159). -/
theorem won_tx {s : State} {e : TxEntry} {rest : List TxEntry} (st : BitVec 4) (h : s.tx = e :: rest)
    (he : e.onBus = true) : ∃ f m, (s.won st).tx = f :: m ∧ f.key = e.key ∧ f.beenOnBus = true ∧ m.Sublist rest := by
  obtain ⟨f, hf, hkey, hbeen⟩ := headWon_keys h
  have honbus : f.onBus = true := by
    simp only [TxEntry.key, Prod.mk.injEq] at hkey
    rw [hkey.2.2, he]
  have hwon : (s.won st).tx = ((s.headWon e rest).beaconWon e.kind).tx := by
    unfold State.won
    rw [h]
    rfl
  rw [hwon]
  unfold State.beaconWon
  split
  · exact ⟨f, rest, hf, hkey, hbeen, List.Sublist.refl _⟩
  · refine ⟨f, rest.filter (fun e => !(e.kind = .presence && !e.onBus)), ?_, hkey, hbeen, List.filter_sublist⟩
    simp [hf, honbus]

theorem won_activity {s : State} {e : TxEntry} {rest : List TxEntry} (st : BitVec 4) (h : s.tx = e :: rest) :
    (s.won st).bus.activity = .attempting st := by
  unfold State.won
  rw [h]
  rfl

/-- While the station contends or attempts, the list has a head and it is ON-BUS. -/
theorem TxSafe.head_of_active {s : State} (hs : TxSafe s) (h : s.bus.activity ≠ .idle) :
    ∃ e rest, s.tx = e :: rest ∧ e.onBus = true := by
  have hhead := hs.2.2 h
  cases ht : s.tx with
  | nil => simp [ht] at hhead
  | cons e rest => exact ⟨e, rest, rfl, by simpa [ht] using hhead⟩

theorem TxSafe.won {s : State} (hs : TxSafe s) {st : BitVec 4} (hact : s.bus.activity = .contending st) :
    TxSafe (s.won st) := by
  obtain ⟨e, rest, ht, he⟩ := hs.head_of_active (by simp [hact])
  obtain ⟨f, m, hm, hkey, _, hsub⟩ := won_tx st ht he
  refine ⟨hs.1.of_keys ?_, ?_⟩
  · rw [hm, ht, List.map_cons, List.map_cons, hkey]
    exact (hsub.map _).cons_cons _
  · simp only [TxEntry.key, Prod.mk.injEq] at hkey
    change HeadOnBus _ ↔ _
    simp [hm, hkey.2.2, he, won_activity st ht]

theorem tellReturned_tx (s : State) (e : TxEntry) :
    (s.tellReturned e).tx = s.tx ∨ (s.tellReturned e).tx = withdrawWaiting e.producer s.tx := by
  unfold State.tellReturned
  split
  · exact .inr rfl
  · split
    · next i hp _ =>
      unfold State.holdReturned
      split
      · rw [hp]
        exact .inr (dropOffBus_tx s i)
      · exact .inl rfl
    all_goals exact .inl rfl

/-- A head that returns to WAITING, with the activity ended. -/
theorem TxSafe.headReturned {s t : State} {e e' : TxEntry} {rest : List TxEntry} (hs : TxSafe s)
    (ht : s.tx = e :: rest) (hkey : e'.key = e.key) (hact : t.bus.activity = .idle) : TxSafe (t.headReturned e' rest) := by
  have hord : TxInOrder (e' :: rest) := (ht ▸ hs.1).of_keys (by simp [hkey])
  obtain ⟨hret, hwait⟩ := returnEntry_inOrder hord
  have hback : TxSafe (t.setTx (returnEntry e' rest)) := ⟨hret, by
    change HeadOnBus (returnEntry e' rest) ↔ _
    simp [not_headOnBus hwait, hact]⟩
  have hbus : (t.headReturned e' rest).bus.activity = (t.setTx (returnEntry e' rest)).bus.activity := by
    rw [State.headReturned, (tellReturned_side _ _).bus_eq]
  rcases tellReturned_tx (t.setTx (returnEntry e' rest)) e' with htx | htx
  · exact hback.of_eq htx hbus
  · exact hback.gives (.inr htx) hbus

theorem TxSafe.lost {s : State} (hs : TxSafe s) {st : BitVec 4} (hact : s.bus.activity = .contending st) :
    TxSafe s.lost := by
  obtain ⟨e, rest, ht, _⟩ := hs.head_of_active (by simp [hact])
  unfold State.lost
  rw [ht]
  exact hs.headReturned ht rfl rfl

@[simp] theorem noteResult_tx (s : State) (r : TxResult) : (s.noteResult r).tx = s.tx := by cases r <;> rfl
@[simp] theorem noteResult_bus (s : State) (r : TxResult) : (s.noteResult r).bus = s.bus := by cases r <;> rfl
@[simp] theorem countAttempt_tx (s : State) (a : Attempt) : (s.countAttempt a).tx = s.tx := by cases a <;> rfl
@[simp] theorem countAttempt_bus (s : State) (a : Attempt) : (s.countAttempt a).bus = s.bus := by cases a <;> rfl

/-- What tells a producer of its conclusion changes the list only where the quorum is met at the end of a HOLD, and
gives the entry's own HOLD up, of which the list then holds none (R31). -/
theorem tellConcluded_tx (s : State) (e : TxEntry) (r : TxResult) :
    (s.tellConcluded e r).tx = s.tx ∨ (s.tellConcluded e r).tx = giveUp e.producer s.tx := by
  unfold State.tellConcluded
  split
  · refine .inl ?_
    unfold State.releaseConcluded
    split
    · rfl
    · exact noteResult_tx s r
  · next i hp =>
    have hhold : (s.holdConcluded i e.unwanted r).tx = s.tx ∨
        (s.holdConcluded i e.unwanted r).tx = giveUp e.producer s.tx := by
      unfold State.holdConcluded
      dsimp only
      split
      · exact .inl (noteResult_tx s r)
      · split
        · exact .inl (noteResult_tx s r)
        · rw [hp]
          simpa using testQuorum_tx ((s.noteResult r).setSource i _) i
    split
    · exact .inl (noteResult_tx s r)
    · refine .inl ?_
      unfold State.clearConcluded
      dsimp only
      split <;> exact noteResult_tx s r
    all_goals exact hhold
  · exact .inl (noteResult_tx s r)
  · split
    · rw [enterState_free rfl]
      exact .inl (noteResult_tx s r)
    · exact .inl rfl

theorem tellConcluded_activity (s : State) (e : TxEntry) (r : TxResult) :
    (s.tellConcluded e r).bus.activity = s.bus.activity := by
  rcases tellConcluded_bus s e r with h | h <;> rw [h]

theorem TxSafe.headConcluded {s t : State} {e : TxEntry} {rest : List TxEntry} (hs : TxSafe s) (ht : s.tx = e :: rest)
    (a : Attempt) (hact : t.bus.activity = .idle) : TxSafe (t.headConcluded e rest a) := by
  unfold State.headConcluded
  split
  · next r _ =>
    have hord : TxInOrder rest := (ht ▸ hs.1).of_keys (by simp)
    have hwait : ∀ x ∈ rest, x.onBus = false := fun x hx => hs.1.2.2.1 x (by simpa [ht] using hx)
    have hrest : TxSafe (t.setTx rest) := ⟨hord, by
      change HeadOnBus rest ↔ _
      simp [not_headOnBus hwait, hact]⟩
    rcases tellConcluded_tx (t.setTx rest) e r with htx | htx
    · exact hrest.of_eq htx (tellConcluded_activity _ e r)
    · exact hrest.gives (.inl htx) (tellConcluded_activity _ e r)
  · exact hs.headReturned ht rfl hact

theorem Effect.keeps_tx {s t : State} (h : Effect A s t) (hs : TxSafe s) : TxSafe t := by
  cases h with
  | action h =>
    have hact : t.bus.activity = s.bus.activity := by rw [h.side.bus_eq]
    rcases h.tx_cases with htx | ⟨p, _, htx⟩
    · exact hs.of_eq htx hact
    · exact hs.gives htx hact
  | withdrawsReport => exact hs.gives (.inr rfl) rfl
  | admits => exact hs.admitOwed
  | offers => exact hs.offerHead
  | wins st hact => exact hs.won hact
  | loses st hact => exact hs.lost hact
  | concludes st e rest a hact ht => exact hs.headConcluded ht a (by simp)
  | quiets ht =>
    rw [txSafe_iff, State.setBus_tx, ht]
    exact ⟨txInOrder_nil, by simp⟩
  | marks p =>
    have hkeys : (s.tx.map (fun f => if f.producer = p then { f with selfDelivered := true } else f)).map TxEntry.key =
        s.tx.map TxEntry.key := by
      rw [List.map_map]
      refine List.map_congr_left fun f _ => ?_
      simp only [Function.comp]
      split <;> rfl
    refine hs.shrink (by rw [State.setTx_tx, hkeys]) ?_ rfl
    rw [State.setTx_tx]
    cases s.tx with
    | nil => rfl
    | cons e l =>
      simp only [List.map_cons, headOnBus_cons]
      split <;> rfl
  | flushes hact =>
    obtain ⟨hbus, htx⟩ := flush_bus_tx s
    rw [txSafe_iff, hbus, htx]
    exact ⟨txInOrder_nil, by simp [hact]⟩
  | restarts adr rate time q =>
    rw [txSafe_iff]
    exact ⟨txInOrder_nil, by simp [State.cleared, State.reset, BusInterface.reset]⟩
  | readies img =>
    rw [goOnline_eq]
    exact hs.of_eq rfl rfl
  | evaluates i =>
    unfold State.evaluateCondition
    dsimp only
    split <;> exact hs.of_eq rfl rfl
  | outside | bus | beacon | reply | roster | hears | ages | faultReset | moves | loads => exact hs.of_eq rfl rfl

/-- Settles O53, effect by effect. -/
theorem stepKeepsTheTransmitList : Obligations.StepKeepsTheTransmitList := fun _ _ hs h =>
  (step_run h).keeps (fun _ _ => Effect.keeps_tx) hs

end Sys2Proof.Machine
end

section
/-! PROOF. The invariant of the hold side of the source table (R26, R29, R30, R33–R35). -/

namespace Sys2Proof.Machine

variable {A : Prop}

/-! ## The table of hold runs -/

/-- What the invariant says of an entry depends on these fields. -/
def SourceEntry.holdRun (e : SourceEntry) : HoldState × Timer × Timer × Bool × List Addr × List Addr :=
  (e.holdState, e.releaseTimer, e.repeatTimer, e.dropNoted, e.received, e.required)

/-- The timers and the sets of every entry fit. -/
def EntriesFit (s : State) : Prop := ∀ i : Fin 16, (s.source i).TimersFit ∧ (s.source i).CollectsFor s.address

/-- The fault kind ORPHANED is present exactly while an entry is ORPHANED (R33). -/
def OrphanShown (s : State) : Prop := s.faults.orphaned = true ↔ ∃ i : Fin 16, (s.source i).holdState = .orphaned

/-- The two parts of the invariant together. -/
def HoldTable (s : State) : Prop := EntriesFit s ∧ OrphanShown s

theorem holdTable_iff (s : State) : HoldTable s ↔ HoldsSafe s ∧ ReleasesSafe s :=
  ⟨fun ⟨h, ho⟩ => ⟨⟨fun i => (h i).1, ho⟩, fun i => (h i).2⟩, fun ⟨⟨h, ho⟩, hr⟩ => ⟨fun i => ⟨h i, hr i⟩, ho⟩⟩

/-- The hold runs, the own address and the fault kind ORPHANED stay. -/
def SameHolds (s t : State) : Prop :=
  (∀ i, (t.source i).holdRun = (s.source i).holdRun) ∧ t.address = s.address ∧ t.faults.orphaned = s.faults.orphaned

theorem SameHolds.refl (s : State) : SameHolds s s := ⟨fun _ => rfl, rfl, rfl⟩

theorem SameHolds.trans {s t u : State} (h : SameHolds s t) (k : SameHolds t u) : SameHolds s u :=
  ⟨fun i => (k.1 i).trans (h.1 i), k.2.1.trans h.2.1, k.2.2.trans h.2.2⟩

theorem SameHolds.of_eq {s t : State} (h : t.sources = s.sources) (ha : t.address = s.address)
    (ho : t.faults.orphaned = s.faults.orphaned) : SameHolds s t :=
  ⟨fun i => by rw [State.source, h]; rfl, ha, ho⟩

theorem SameHolds.setSource {s t : State} (h : SameHolds s t) {i : Fin 16} {e : SourceEntry}
    (he : e.holdRun = (s.source i).holdRun) : SameHolds s (t.setSource i e) :=
  ⟨fun j => by
    rw [State.source_setSource]
    split
    · next hij => rw [he, hij]
    · exact h.1 j, h.2⟩

theorem SameHolds.put {s : State} {i : Fin 16} {e : SourceEntry} (he : e.holdRun = (s.source i).holdRun) :
    SameHolds s (s.setSource i e) := (SameHolds.refl s).setSource he

theorem HoldTable.of_same {s t : State} (hs : HoldTable s) (h : SameHolds s t) : HoldTable t := by
  obtain ⟨hrun, hadr, horph⟩ := h
  have hfields : ∀ i, (t.source i).holdState = (s.source i).holdState ∧
      (t.source i).releaseTimer = (s.source i).releaseTimer ∧ (t.source i).repeatTimer = (s.source i).repeatTimer ∧
      (t.source i).dropNoted = (s.source i).dropNoted ∧ (t.source i).received = (s.source i).received ∧
      (t.source i).required = (s.source i).required := fun i => by
    simpa only [SourceEntry.holdRun, Prod.mk.injEq] using hrun i
  refine ⟨fun i => ?_, ?_⟩
  · obtain ⟨h1, h2, h3, h4, h5, h6⟩ := hfields i
    rw [SourceEntry.TimersFit, SourceEntry.CollectsFor, h1, h2, h3, h4, h5, h6, hadr]
    exact hs.1 i
  · simp only [OrphanShown, horph, fun i => (hfields i).1]
    exact hs.2

/-! ## One entry replaced -/

theorem EntriesFit.put {s : State} (hs : EntriesFit s) {i : Fin 16} {e : SourceEntry} (hfit : e.TimersFit)
    (hcol : e.CollectsFor s.address) : EntriesFit (s.setSource i e) := fun j => by
  rw [State.source_setSource]
  split
  · exact ⟨hfit, hcol⟩
  · exact hs j

theorem OrphanShown.put {s : State} (hs : OrphanShown s) {i : Fin 16} {e : SourceEntry}
    (h : e.holdState = .orphaned ↔ (s.source i).holdState = .orphaned) : OrphanShown (s.setSource i e) := by
  refine hs.trans (exists_congr fun j => ?_)
  rw [State.source_setSource]
  split
  · next hij => rw [← hij, h]
  · rfl

theorem HoldTable.put {s : State} (hs : HoldTable s) {i : Fin 16} {e : SourceEntry} (hfit : e.TimersFit)
    (hcol : e.CollectsFor s.address) (h : e.holdState = .orphaned ↔ (s.source i).holdState = .orphaned) :
    HoldTable (s.setSource i e) := ⟨hs.1.put hfit hcol, hs.2.put h⟩

theorem EntriesFit.refreshed {s : State} (hs : EntriesFit s) : HoldTable s.refreshOrphaned := by
  refine ⟨hs, ?_⟩
  have hany : s.refreshOrphaned.faults.orphaned = (indices 16).any (fun i => (s.source i).holdState = .orphaned) := rfl
  rw [OrphanShown, hany, List.any_eq_true]
  simp only [mem_indices, true_and, decide_eq_true_eq]
  exact Iff.rfl

theorem HoldTable.setBus {s : State} (hs : HoldTable s) (b : BusInterface) : HoldTable (s.setBus b) := hs

@[simp] theorem refreshOrphaned_source (s : State) (i : Fin 16) : s.refreshOrphaned.source i = s.source i := rfl

/-! ## The operations of the source table -/

theorem requiredFor_collects (s : State) (e : SourceEntry) : s.address ∉ s.requiredFor e := by
  unfold State.requiredFor
  split
  · simp [mem_addrSet]
  · simp

theorem EntriesFit.startInst {s : State} (hs : EntriesFit s) (i : Fin 16) (b : Bool) : EntriesFit (s.startInst i b) :=
  hs.put ⟨by simp, by simp, by simp⟩ ⟨by simp, by simp, by simp, requiredFor_collects s _⟩

theorem HoldTable.startInst {s : State} (hs : HoldTable s) {i : Fin 16} (h : (s.source i).holdState ≠ .orphaned) (b : Bool) :
    HoldTable (s.startInst i b) := ⟨hs.1.startInst i b, hs.2.put (by simpa using h)⟩

theorem HoldTable.conditionAsserts {s : State} (hs : HoldTable s) (i : Fin 16) : HoldTable (s.conditionAsserts i) := by
  obtain ⟨⟨hrel, hrep, hdrop⟩, hcol⟩ := hs.1 i
  have hcond : HoldTable (s.setSource i { s.source i with condition := true }) := hs.of_same (.put rfl)
  unfold State.conditionAsserts
  dsimp only
  split
  · next hq => exact hcond.startInst (by simp [hq]) _
  · next hq => exact hcond.put ⟨by simpa using hrel, by simpa using hrep, by simp⟩ hcol (by simp [hq])
  all_goals exact hcond

theorem HoldTable.dropOffBus {s : State} (hs : HoldTable s) {i : Fin 16} (h : (s.source i).holdState = .announcing) :
    HoldTable (s.dropOffBus i) := by
  obtain ⟨⟨hrel, hrep, hdrop⟩, hcol⟩ := hs.1 i
  have ht : HoldTable (s.withdrawEntry (.source i)) := hs
  have hrel' : (s.source i).releaseTimer = none := by simpa [h] using hrel
  have hrep' : (s.source i).repeatTimer = none := by simpa [h] using hrep
  have horph : ((s.withdrawEntry (.source i)).source i).holdState ≠ .orphaned := by
    rw [show ((s.withdrawEntry (.source i)).source i).holdState = .announcing from h]
    simp
  unfold State.dropOffBus
  dsimp only
  split
  · exact ht.put ⟨by simp [hrel'], by simp [hrep'], by simp⟩ hcol (by simp [horph])
  · split
    · exact ht.put ⟨by simp [hrel'], by simp [hrep'], by simp⟩ hcol (by simp [horph])
    · exact ht.put ⟨by simp [hrel'], by simp [hrep'], by simp⟩ hcol (by simp [horph])

theorem HoldTable.conditionDrops {s : State} (hs : HoldTable s) (i : Fin 16) : HoldTable (s.conditionDrops i) := by
  obtain ⟨⟨hrel, hrep, hdrop⟩, hcol⟩ := hs.1 i
  have hcond : HoldTable (s.setSource i { s.source i with condition := false }) := hs.of_same (.put rfl)
  have hending : HoldTable (((s.setSource i { s.source i with condition := false }).setSource i
      { s.source i with condition := false, holdState := .ending, releaseTimer := none,
                        repeatTimer := none }).refreshOrphaned) ∨ (s.source i).holdState = .announcing := by
    by_cases ha : (s.source i).holdState = .announcing
    · exact .inr ha
    · refine .inl (EntriesFit.refreshed ?_)
      exact hcond.1.put ⟨by simp, by simp, by simpa [ha] using hdrop⟩ hcol
  unfold State.conditionDrops
  dsimp only
  split
  · exact hcond
  · exact hcond
  · next hq =>
    split
    · exact hcond.put ⟨by simpa using hrel, by simpa using hrep, by simp [hq]⟩ hcol (by simp)
    · exact hcond.dropOffBus (by simp [hq])
  all_goals next hq => exact hending.resolve_right (by simp [hq])

theorem EntriesFit.quorumReached {s : State} (hs : EntriesFit s) {i : Fin 16} (h : (s.source i).holdState ≠ .satisfied) :
    HoldTable (s.quorumReached i) := by
  obtain ⟨⟨hrel, hrep, hdrop⟩, hcol⟩ := hs i
  have hrep' : (s.source i).repeatTimer = none := by_contra fun hne => h (hrep hne)
  have ht : EntriesFit (s.giveUpEntry (.source i)) := hs
  unfold State.quorumReached
  dsimp only
  split
  · refine EntriesFit.refreshed ?_
    exact ht.put ⟨by simp, by simp [hrep'], by simp⟩ hcol
  · next hd =>
    split
    · split
      · refine EntriesFit.refreshed (EntriesFit.startInst ?_ i true)
        exact ht.put ⟨by simp, by simp, by simp [hd]⟩ hcol
      · refine EntriesFit.refreshed ?_
        exact ht.put ⟨by simp, by simp, by simp [hd]⟩ hcol
    · refine EntriesFit.refreshed ?_
      exact ht.put ⟨by simp, by simp, by simp [hd]⟩ hcol

theorem HoldTable.testQuorum {s : State} (hs : HoldTable s) {i : Fin 16} (h : (s.source i).holdState ≠ .satisfied) :
    HoldTable (s.testQuorum i) := by
  unfold State.testQuorum
  split
  · exact hs.1.quorumReached h
  · exact hs

theorem HoldTable.releaseAt {s : State} (hs : HoldTable s) (i : Fin 16) {a : Addr} (ha : a ≠ s.address) (k : InstNo) :
    HoldTable (s.releaseAt i a k) := by
  obtain ⟨hfit, hlen, hnodup, hown, hreq⟩ := hs.1 i
  have hcount : HoldTable (s.count .staleReleases) := hs
  unfold State.releaseAt
  dsimp only
  split_ifs with _ _ hsat _ hmem hfour hann
  all_goals try assumption
  all_goals
    have hput : HoldTable (s.setSource i { s.source i with received := addrInsert a (s.source i).received }) :=
      hs.put hfit ⟨(addrInsert_length_le _ _).trans (by omega), nodup_addrInsert hnodup (by simpa using hmem),
        by simp [mem_addrInsert, Ne.symm ha, hown], hreq⟩ Iff.rfl
  · exact hput.testQuorum (by simpa using hsat)
  · exact hput

theorem HoldTable.waiveAt {s : State} (hs : HoldTable s) (i : Fin 16) (a : Addr) : HoldTable (s.waiveAt i a) := by
  obtain ⟨hfit, hlen, hnodup, hown, hreq⟩ := hs.1 i
  unfold State.waiveAt
  dsimp only
  split
  · next hw =>
    have hput : HoldTable (s.setSource i
        { s.source i with required := (s.source i).required.filter (fun b => b != a) }) :=
      hs.put hfit ⟨hlen, hnodup, hown, fun hm => hreq (List.mem_filter.1 hm).1⟩ Iff.rfl
    split
    · exact hput
    · refine hput.testQuorum ?_
      intro hsat
      have hst : (s.source i).holdState = .satisfied := by simpa using hsat
      simp [SourceEntry.waives, hst] at hw
  · exact hs

theorem HoldTable.releaseExpired {s : State} (hs : HoldTable s) {i : Fin 16} (h : (s.source i).releaseTimer ≠ none) :
    HoldTable (s.releaseExpired i) := by
  obtain ⟨⟨hrel, hrep, hdrop⟩, hcol⟩ := hs.1 i
  have hst : (s.source i).holdState = .awaiting := hrel.1 h
  have hrep' : (s.source i).repeatTimer = none := by simpa [hst] using hrep
  unfold State.releaseExpired
  dsimp only
  split
  · exact hs.put ⟨by simp, by simp [hrep'], by simp⟩ hcol (by simp [hst])
  · refine EntriesFit.refreshed ?_
    exact hs.1.put ⟨by simp, by simp, by simpa [hst] using hdrop⟩ hcol

theorem takeEdge_sameHolds (s : State) (i : Fin 16) (d : Direction) : SameHolds s (s.takeEdge i d) := by
  have hput : SameHolds s (s.setSource i ((s.source i).countEdge d).1) := .put (by
    unfold SourceEntry.countEdge
    split <;> rfl)
  unfold State.takeEdge
  dsimp only
  split
  · exact hput
  · exact hput

theorem put_orphaned {f : FaultSet} {k : FaultKind} (hk : k ≠ .orphaned) (b : Bool) : (f.put k b).orphaned = f.orphaned := by
  cases k with
  | orphaned => exact absurd rfl hk
  | configFailed | withdrawn | addressConflict | undelivered | acceptOverflow | lostEdges | collision | imageMismatch => rfl

theorem SourceEffect.keeps_holds {s t : State} (h : SourceEffect s t) (hs : HoldTable s) : HoldTable t := by
  cases h with
  | tallied => exact hs
  | latched k hk => exact hs.of_same (.of_eq rfl rfl (put_orphaned hk true))
  | unlatched k hk => exact hs.of_same (.of_eq rfl rfl (put_orphaned hk false))
  | edge i o d => exact hs.of_same (takeEdge_sameHolds s i d)
  | asserts i => exact hs.conditionAsserts i
  | drops i => exact hs.conditionDrops i
  | release i a k _ ha => exact hs.releaseAt i ha k
  | waiver i a => exact hs.waiveAt i a
  | releaseExpiry i h => exact hs.releaseExpired h
  | repeatExpiry i h =>
    have hsat := (hs.1 i).1.2.1 h
    exact hs.startInst (by simp [hsat]) true

theorem ActionEffect.keeps_holds {s t : State} (h : ActionEffect s t) (hs : HoldTable s) : HoldTable t := by
  cases h with
  | source h => exact h.keeps_holds hs
  | gen h =>
    obtain ⟨_, _, _, _, _, rfl⟩ := h.runSide
    exact hs
  | table h =>
    obtain ⟨_, _, _, _, _, _, _, rfl⟩ := h.tableSide
    exact hs

/-! ## The transmit side -/

theorem noteResult_sameHolds (s : State) (r : TxResult) : SameHolds s (s.noteResult r) := by
  cases r <;> exact .of_eq rfl rfl rfl

theorem countAttempt_sameHolds (s : State) (a : Attempt) : SameHolds s (s.countAttempt a) := by
  cases a <;> exact .of_eq rfl rfl rfl

theorem setRecordState_sameHolds (s : State) (j : Fin 8) (st : RecordState) (b : Bool) :
    SameHolds s (s.setRecordState j st b) := by
  exact .of_eq rfl rfl rfl

theorem tellAdmitted_sameHolds (s : State) (e : TxEntry) : SameHolds s (s.tellAdmitted e) := by
  unfold State.tellAdmitted
  split
  · exact setRecordState_sameHolds s _ _ _
  · split
    · exact .put rfl
    · exact .refl s
  · exact .of_eq rfl rfl rfl
  · split <;> exact .of_eq rfl rfl rfl

theorem admitOwed_sameHolds (s : State) : SameHolds s s.admitOwed := by
  refine foldl_rel SameHolds.refl SameHolds.trans State.admitOne (fun t e => ?_) s.demands s
  unfold State.admitOne
  split
  · exact SameHolds.trans (.of_eq rfl rfl rfl) (tellAdmitted_sameHolds (t.setTx (admitEntry e t.tx)) e)
  · exact .refl t

theorem offerHead_sameHolds (s : State) : SameHolds s s.offerHead := by
  unfold State.offerHead
  split
  · exact .refl s
  · split <;> exact .of_eq rfl rfl rfl

theorem holdWon_sameHolds (s : State) (i : Fin 16) (k : InstNo) : SameHolds s (s.holdWon i k) := by
  unfold State.holdWon
  dsimp only
  split
  · exact .put rfl
  · exact .refl s

theorem tellWon_sameHolds (s : State) (e : TxEntry) : SameHolds s (s.tellWon e) := by
  unfold State.tellWon
  split
  · split
    · exact .refl s
    · exact setRecordState_sameHolds s _ _ _
  · split
    · exact .put rfl
    · split
      · exact holdWon_sameHolds s _ _
      · exact .refl s
    all_goals exact .refl s
  · exact .of_eq rfl rfl rfl
  · exact .refl s

theorem headWon_sameHolds (s : State) (e : TxEntry) (rest : List TxEntry) : SameHolds s (s.headWon e rest) := by
  unfold State.headWon
  split
  · exact .refl s
  · exact SameHolds.trans (.of_eq rfl rfl rfl) (tellWon_sameHolds _ e)

theorem won_sameHolds (s : State) (st : BitVec 4) : SameHolds s (s.won st) := by
  unfold State.won
  split
  · exact .refl s
  · next e rest _ =>
    refine (headWon_sameHolds s e rest).trans ?_
    unfold State.beaconWon
    split <;> exact .of_eq rfl rfl rfl

theorem HoldTable.tellReturned {s : State} (hs : HoldTable s) (e : TxEntry) : HoldTable (s.tellReturned e) := by
  unfold State.tellReturned
  split
  · exact hs
  · split
    · next i _ _ =>
      unfold State.holdReturned
      split
      · next hd => exact hs.dropOffBus ((hs.1 i).1.2.2 hd)
      · exact hs
    all_goals exact hs

theorem HoldTable.headReturned {s : State} (hs : HoldTable s) (e : TxEntry) (rest : List TxEntry) :
    HoldTable (s.headReturned e rest) :=
  HoldTable.tellReturned (s := s.setTx (returnEntry e rest)) hs e

theorem HoldTable.lost {s : State} (hs : HoldTable s) : HoldTable s.lost := by
  unfold State.lost
  split
  · exact hs
  · next e rest _ =>
    exact (hs.setBus _).headReturned e rest

theorem HoldTable.holdConcluded {s : State} (hs : HoldTable s) (i : Fin 16) (u : Bool) (r : TxResult) :
    HoldTable (s.holdConcluded i u r) := by
  have ht : HoldTable (s.noteResult r) := hs.of_same (noteResult_sameHolds s r)
  unfold State.holdConcluded
  generalize s.noteResult r = t at ht
  obtain ⟨⟨hrel, hrep, hdrop⟩, hcol⟩ := ht.1 i
  dsimp only
  split
  · exact ht
  · next hann =>
    simp only [Bool.or_eq_true, decide_eq_true_eq, not_or, not_not] at hann
    have hrel' : (t.source i).releaseTimer = none := by simpa [hann.2] using hrel
    have hrep' : (t.source i).repeatTimer = none := by simpa [hann.2] using hrep
    split
    · exact ht.put ⟨by simp [hrel'], by simp [hrep'], by simp⟩ hcol (by simp [hann.2])
    · next hd =>
      refine HoldTable.testQuorum ?_ (by simp)
      exact ht.put ⟨by simp [State.releaseTimerStart, State.timerFor], by simp [hrep'], by simp [hd]⟩ hcol (by simp [hann.2])

theorem HoldTable.clearConcluded {s : State} (hs : HoldTable s) (i : Fin 16) (r : TxResult) :
    HoldTable (s.clearConcluded i r) := by
  have ht : HoldTable (s.noteResult r) := hs.of_same (noteResult_sameHolds s r)
  unfold State.clearConcluded
  generalize s.noteResult r = t at ht
  dsimp only
  have hquiet : HoldTable (t.setSource i { t.source i with
      announced := false, predOpen := false, dropNoted := false, holdState := .quiet, releaseTimer := none,
      repeatTimer := none }).refreshOrphaned := by
    refine EntriesFit.refreshed ?_
    exact ht.1.put ⟨by simp, by simp, by simp⟩ (ht.1 i).2
  split
  · exact hquiet.startInst (by simp) false
  · exact hquiet

theorem HoldTable.tellConcluded {s : State} (hs : HoldTable s) (e : TxEntry) (r : TxResult) :
    HoldTable (s.tellConcluded e r) := by
  have hnote : HoldTable (s.noteResult r) := hs.of_same (noteResult_sameHolds s r)
  unfold State.tellConcluded
  split
  · unfold State.releaseConcluded
    split
    · exact hs
    · exact hnote.of_same (setRecordState_sameHolds _ _ _ _)
  · next i _ =>
    split
    · exact hs.of_same ((noteResult_sameHolds s r).setSource rfl)
    · exact hs.clearConcluded i r
    all_goals exact hs.holdConcluded i _ r
  · exact hnote
  · split
    · rw [enterState_free rfl]
      exact hnote.of_same (.of_eq rfl rfl rfl)
    · exact hs

theorem HoldTable.headConcluded {s : State} (hs : HoldTable s) (e : TxEntry) (rest : List TxEntry) (a : Attempt) :
    HoldTable (s.headConcluded e rest a) := by
  unfold State.headConcluded
  split
  · next r _ => exact HoldTable.tellConcluded (s := s.setTx rest) hs e r
  · exact hs.headReturned _ rest

theorem countTimes_sameHolds (s : State) (t : TallyName) (n : Nat) : SameHolds s (s.countTimes t n) := by
  induction n generalizing s with
  | zero => exact .refl s
  | succ n ih => exact SameHolds.trans (.of_eq rfl rfl rfl) (ih (s.count t))

theorem edgeFlushed_sameHolds (s : State) (i : Fin 16) : SameHolds s (s.edgeFlushed i) := by
  unfold State.edgeFlushed
  dsimp only
  have hcount := fun n => SameHolds.trans (SameHolds.put (s := s) (i := i) (e := { s.source i with
    pendingCount := (limitedSum (s.source i).pendingCount (s.source i).nextCount).1, nextCount := 0, edgeState := .owed })
    rfl) (countTimes_sameHolds _ .lostEdges n)
  split
  · exact hcount _
  · exact (hcount _).trans (.of_eq rfl rfl rfl)

theorem flush_sameHolds (s : State) : SameHolds s s.flush := by
  have hfold : SameHolds s (s.tx.foldl State.tellFlushed (s.setTx [])) := by
    refine SameHolds.trans (.of_eq rfl rfl rfl)
      (foldl_rel SameHolds.refl SameHolds.trans State.tellFlushed (fun t e => ?_) s.tx (s.setTx []))
    unfold State.tellFlushed
    split
    · split
      · exact .refl t
      · exact setRecordState_sameHolds t _ _ _
    · split
      · exact edgeFlushed_sameHolds t _
      · exact .refl t
    · exact .of_eq rfl rfl rfl
    · split <;> exact .of_eq rfl rfl rfl
  exact hfold.trans (.of_eq rfl rfl rfl)

/-! ## The tables of reset and of an image -/

/-- An entry as reset leaves it fits. -/
theorem reset_fits (own : Addr) : SourceEntry.reset.TimersFit ∧ SourceEntry.reset.CollectsFor own :=
  ⟨by decide, by decide +revert⟩

theorem HoldTable.cleared (s : State) (adr : Addr) (rate : BitVec 2) (time : Nat) (q : Seq) :
    HoldTable (s.cleared adr rate time q) := by
  have hsource : ∀ i, (s.cleared adr rate time q).source i = SourceEntry.reset := fun i => look_replicate _ i
  refine ⟨fun i => ?_, ?_⟩
  · rw [hsource]
    exact reset_fits _
  · have hfaults : (s.cleared adr rate time q).faults.orphaned = false := rfl
    have hquiet : SourceEntry.reset.holdState ≠ .orphaned := by decide
    simp [OrphanShown, hsource, hfaults, hquiet]

theorem HoldTable.configured (s : State) (img : List Byte) : HoldTable (s.configure img) := by
  refine EntriesFit.refreshed fun i => ?_
  simp only [State.source, look_ofFn]
  exact reset_fits _

theorem goOnline_sameHolds (s : State) (sig : Signature) : SameHolds s (s.goOnline sig) := by
  rw [goOnline_eq]
  exact .of_eq rfl rfl rfl

theorem Effect.keeps_holds {s t : State} (h : Effect A s t) (hs : HoldTable s) : HoldTable t := by
  cases h with
  | action h => exact h.keeps_holds hs
  | admits => exact hs.of_same (admitOwed_sameHolds s)
  | offers => exact hs.of_same (offerHead_sameHolds s)
  | wins st => exact hs.of_same (won_sameHolds s st)
  | loses => exact hs.lost
  | concludes st e rest a =>
    exact ((hs.setBus _).of_same (countAttempt_sameHolds _ a)).headConcluded e rest a
  | flushes => exact hs.of_same (flush_sameHolds s)
  | restarts adr rate time q => exact HoldTable.cleared s adr rate time q
  | readies img =>
    exact (HoldTable.configured (s.setLoader _) img).of_same (goOnline_sameHolds _ _)
  | evaluates i h =>
    unfold State.evaluateCondition
    dsimp only
    split
    · exact (hs.of_same (.put rfl) : HoldTable (s.setSource i { s.source i with condition := true })).startInst
        (by simp [h]) false
    · exact hs
  | faultReset => exact hs.of_same (.of_eq rfl rfl rfl)
  | outside | bus | beacon | reply | withdrawsReport | roster | hears | ages | quiets | marks | moves
  | loads => exact hs

end Sys2Proof.Machine
end

section
/-! PROOF. The invariant of the edge side of the source table (R13, R14, R16, R19, R133), entry by entry: what an entry
says of its EDGE against the EDGE frames of the list. -/

namespace Sys2Proof.Machine

variable {A : Prop}

/-! ## The EDGE of an entry in the list -/

/-- The list has an EDGE of source entry `i` with these two flags. -/
def EdgeIn (l : List TxEntry) (i : Fin 16) (been unwanted : Bool) : Prop :=
  ∃ e ∈ l, e.kind = .edge ∧ e.producer = .source i ∧ e.beenOnBus = been ∧ e.unwanted = unwanted

@[simp] theorem not_edgeIn_nil (i : Fin 16) (b u : Bool) : ¬EdgeIn [] i b u := by simp [EdgeIn]

theorem edgeIn_cons (e : TxEntry) (l : List TxEntry) (i : Fin 16) (b u : Bool) :
    EdgeIn (e :: l) i b u ↔
      (e.kind = .edge ∧ e.producer = .source i ∧ e.beenOnBus = b ∧ e.unwanted = u) ∨ EdgeIn l i b u := by
  simp [EdgeIn]

theorem EdgeIn.perm {l m : List TxEntry} (h : l.Perm m) (i : Fin 16) (b u : Bool) : EdgeIn l i b u ↔ EdgeIn m i b u :=
  exists_congr fun _ => and_congr_left fun _ => h.mem_iff

/-- Two lists have the same EDGE frames. -/
def SameEdges (l m : List TxEntry) : Prop := ∀ i b u, EdgeIn m i b u ↔ EdgeIn l i b u

theorem SameEdges.refl (l : List TxEntry) : SameEdges l l := fun _ _ _ => Iff.rfl

theorem SameEdges.trans {l m n : List TxEntry} (h : SameEdges l m) (k : SameEdges m n) : SameEdges l n :=
  fun i b u => (k i b u).trans (h i b u)

/-- The producer `p`, if it is a source entry, has no EDGE in the list. -/
def NoEdgeOf (p : Producer) (l : List TxEntry) : Prop := ∀ i, p = .source i → ∀ b u, ¬EdgeIn l i b u

theorem noEdgeOf_of_ne {p : Producer} {l : List TxEntry} (h : ∀ x ∈ l, x.producer ≠ p) : NoEdgeOf p l := by
  rintro i rfl b u ⟨x, hx, _, hp, _⟩
  exact h x hx hp

theorem sameEdges_cons {e : TxEntry} {l m : List TxEntry} (h : SameEdges l m) : SameEdges (e :: l) (e :: m) :=
  fun i b u => by rw [edgeIn_cons, edgeIn_cons, h i b u]

/-- An entry that is no EDGE of a source entry may come or go. -/
theorem edgeIn_cons_of_not {e : TxEntry} (l : List TxEntry) {i : Fin 16} (h : ¬(e.kind = .edge ∧ e.producer = .source i))
    (b u : Bool) : EdgeIn (e :: l) i b u ↔ EdgeIn l i b u := by
  rw [edgeIn_cons, or_iff_right]
  exact fun ⟨hk, hp, _⟩ => h ⟨hk, hp⟩

theorem NoEdgeOf.head {p : Producer} {e : TxEntry} {l : List TxEntry} (h : NoEdgeOf p (e :: l)) (he : e.producer = p)
    (i : Fin 16) : ¬(e.kind = .edge ∧ e.producer = .source i) := fun ⟨hk, hp⟩ =>
  h i (he.symm.trans hp) _ _ ⟨e, by simp, hk, hp, rfl, rfl⟩

theorem NoEdgeOf.tail {p : Producer} {e : TxEntry} {l : List TxEntry} (h : NoEdgeOf p (e :: l)) : NoEdgeOf p l :=
  fun i hi b u hin => h i hi b u ((edgeIn_cons _ _ _ _ _).2 (.inr hin))

theorem sameEdges_giveUp {p : Producer} {l : List TxEntry} (h : NoEdgeOf p l) : SameEdges l (giveUp p l) := by
  induction l with
  | nil => exact .refl _
  | cons e l ih =>
    rw [giveUp]
    split
    · next he =>
      intro i b u
      have hnot := h.head he i
      rw [edgeIn_cons_of_not l hnot]
      split
      · exact edgeIn_cons_of_not (e := { e with unwanted := true }) l hnot b u
      · rfl
    · exact sameEdges_cons (ih h.tail)

theorem sameEdges_withdrawWaiting {p : Producer} {l : List TxEntry} (h : NoEdgeOf p l) :
    SameEdges l (withdrawWaiting p l) := by
  intro i b u
  refine exists_congr fun x => and_congr_left fun hx => ?_
  rw [withdrawWaiting, List.mem_filter, and_iff_left_iff_imp]
  intro hmem
  have hp : x.producer ≠ p := fun hp => h i (hp.symm.trans hx.2.1) _ _ ⟨x, hmem, hx⟩
  simp [hp]

theorem sameEdges_of_keys {f : TxEntry → TxEntry} (l : List TxEntry)
    (h : ∀ x, (f x).kind = x.kind ∧ (f x).producer = x.producer ∧ (f x).beenOnBus = x.beenOnBus ∧
      (f x).unwanted = x.unwanted) : SameEdges l (l.map f) := by
  intro i b u
  simp [EdgeIn, h]

/-! ## An entry against its EDGE frames -/

/-- What the invariant says of an entry depends on these fields. -/
def SourceEntry.edgeRun (e : SourceEntry) : Bool × EdgeState × BitVec 4 × BitVec 4 :=
  (e.isHold, e.edgeState, e.pendingCount, e.nextCount)

/-- The entry `e` fits the EDGE frames that the list has of it. -/
def SourceEntry.Edges (e : SourceEntry) (listed : Bool → Bool → Prop) : Prop :=
  e.EdgeFits ∧ (∀ b u, listed b u → u = false ∧ e.edgeState = if b then .sending else .listed) ∧
    (e.edgeState = .listed ∨ e.edgeState = .sending → ∃ b u, listed b u)

/-- Every entry fits the EDGE frames that the list has of it. -/
def EdgeTable (s : State) : Prop := ∀ i : Fin 16, (s.source i).Edges (EdgeIn s.tx i)

/-- An attempt is made at an entry that has won. -/
def AttemptWon (s : State) : Prop :=
  ∀ st : BitVec 4, s.bus.activity = .attempting st → ∀ e ∈ s.tx.head?, e.beenOnBus = true

theorem edgesSafe_iff (s : State) : EdgesSafe s ↔ EdgeTable s ∧ AttemptWon s := by
  constructor
  · rintro ⟨hfit, hlist, hown, hwon⟩
    refine ⟨fun i => ⟨hfit i, ?_, fun h => ?_⟩, hwon⟩
    · rintro b u ⟨e, he, hk, hp, rfl, rfl⟩
      exact hlist e he i hk hp
    · obtain ⟨e, he, hk, hp⟩ := hown i h
      exact ⟨_, _, e, he, hk, hp, rfl, rfl⟩
  · rintro ⟨htable, hwon⟩
    refine ⟨fun i => (htable i).1, fun e he i hk hp => (htable i).2.1 _ _ ⟨e, he, hk, hp, rfl, rfl⟩, fun i h => ?_, hwon⟩
    obtain ⟨_, _, e, he, hk, hp, _⟩ := (htable i).2.2 h
    exact ⟨e, he, hk, hp⟩

theorem SourceEntry.Edges.of_same {e f : SourceEntry} {p q : Bool → Bool → Prop} (h : e.Edges p)
    (hrun : f.edgeRun = e.edgeRun) (hlist : ∀ b u, q b u ↔ p b u) : f.Edges q := by
  simp only [SourceEntry.edgeRun, Prod.mk.injEq] at hrun
  obtain ⟨h1, h2, h3, h4⟩ := hrun
  simp only [SourceEntry.Edges, SourceEntry.EdgeFits, h1, h2, h3, h4, hlist]
  exact h

/-- An entry in IDLE or OWED with no EDGE in the list. -/
theorem SourceEntry.Edges.unlisted {e : SourceEntry} {p : Bool → Bool → Prop} (hfit : e.EdgeFits)
    (hst : e.edgeState = .idle ∨ e.edgeState = .owed) (hlist : ∀ b u, ¬p b u) : e.Edges p :=
  ⟨hfit, fun b u h => absurd h (hlist b u), fun h => by rcases hst with hst | hst <;> simp [hst] at h⟩

theorem SourceEntry.Edges.not_listed {e : SourceEntry} {p : Bool → Bool → Prop} (h : e.Edges p)
    (hst : e.edgeState = .idle ∨ e.edgeState = .owed) (b u : Bool) : ¬p b u := fun hp => by
  have hb := (h.2.1 b u hp).2
  rcases hst with hst | hst <;> cases b <;> simp [hst] at hb

/-- A hold-mode entry has no EDGE in the list. -/
theorem EdgeTable.noEdgeOf_hold {s : State} (hs : EdgeTable s) {i : Fin 16} (h : (s.source i).isHold = true) :
    NoEdgeOf (.source i) s.tx := by
  rintro j hj b u
  cases hj
  exact (hs i).not_listed (.inl ((hs i).1.1 h)) b u

/-- The edge runs of all entries stay. -/
def SameEdgeRuns (s t : State) : Prop := ∀ i, (t.source i).edgeRun = (s.source i).edgeRun

theorem SameEdgeRuns.refl (s : State) : SameEdgeRuns s s := fun _ => rfl

theorem SameEdgeRuns.trans {s t u : State} (h : SameEdgeRuns s t) (k : SameEdgeRuns t u) : SameEdgeRuns s u :=
  fun i => (k i).trans (h i)

theorem SameEdgeRuns.of_eq {s t : State} (h : t.sources = s.sources) : SameEdgeRuns s t := fun i => by
  rw [State.source, h]
  rfl

theorem SameEdgeRuns.setSource {s t : State} (h : SameEdgeRuns s t) {i : Fin 16} {e : SourceEntry}
    (he : e.edgeRun = (s.source i).edgeRun) : SameEdgeRuns s (t.setSource i e) := fun j => by
  rw [State.source_setSource]
  split
  · next hij => rw [he, hij]
  · exact h j

theorem SameEdgeRuns.put {s : State} {i : Fin 16} {e : SourceEntry} (he : e.edgeRun = (s.source i).edgeRun) :
    SameEdgeRuns s (s.setSource i e) := (SameEdgeRuns.refl s).setSource he

theorem EdgeTable.of_same {s t : State} (hs : EdgeTable s) (hrun : SameEdgeRuns s t) (hlist : SameEdges s.tx t.tx) :
    EdgeTable t := fun i => (hs i).of_same (hrun i) (hlist i)

/-- One entry is changed, with its own EDGE frames only. -/
theorem EdgeTable.put {s t : State} (hs : EdgeTable s) {i : Fin 16} {e : SourceEntry} (ht : t.sources = upd s.sources i e)
    (hlist : ∀ j ≠ i, ∀ b u, EdgeIn t.tx j b u ↔ EdgeIn s.tx j b u) (he : e.Edges (EdgeIn t.tx i)) : EdgeTable t := by
  intro j
  rw [State.source, ht, look_upd]
  split
  · next hij => exact hij ▸ he
  · next hij => exact (hs j).of_same rfl (hlist j (Ne.symm hij))

/-! ## The head at an attempt -/

theorem AttemptWon.of_idle {t : State} (h : t.bus.activity = .idle) : AttemptWon t := fun st hst => by
  rw [h] at hst
  cases hst

theorem AttemptWon.of_head {s t : State} (hs : AttemptWon s) (htx : TxSafe s) (hact : t.bus.activity = s.bus.activity)
    (hhead : HeadOnBus s.tx → t.tx.head?.map TxEntry.beenOnBus = s.tx.head?.map TxEntry.beenOnBus) : AttemptWon t := by
  intro st hst e he
  rw [hact] at hst
  have hmap := hhead (htx.2.2 (by simp [hst]))
  rw [Option.mem_def.1 he, Option.map_some] at hmap
  obtain ⟨f, hf, hfe⟩ := Option.map_eq_some_iff.1 hmap.symm
  exact hfe ▸ hs st hst f hf

theorem AttemptWon.of_eq {s t : State} (hs : AttemptWon s) (htx : t.tx = s.tx)
    (hact : t.bus.activity = s.bus.activity) : AttemptWon t := fun st hst => by
  rw [htx]
  exact hs st (hact ▸ hst)

theorem head_giveUp {p : Producer} {l : List TxEntry} (h : HeadOnBus l) :
    (giveUp p l).head?.map TxEntry.beenOnBus = l.head?.map TxEntry.beenOnBus := by
  cases l with
  | nil => rfl
  | cons e l =>
    rw [headOnBus_cons] at h
    rw [giveUp, h]
    split <;> rfl

theorem head_withdrawWaiting {p : Producer} {l : List TxEntry} (h : HeadOnBus l) :
    (withdrawWaiting p l).head?.map TxEntry.beenOnBus = l.head?.map TxEntry.beenOnBus := by
  cases l with
  | nil => rfl
  | cons e l =>
    rw [headOnBus_cons] at h
    simp [withdrawWaiting, h]

theorem head_admitEntry {e : TxEntry} {l : List TxEntry} (h : HeadOnBus l) : (admitEntry e l).head? = l.head? := by
  cases l with
  | nil => simp at h
  | cons x l =>
    rw [headOnBus_cons] at h
    unfold admitEntry
    split
    · simp [admitUrgent, h]
    · rfl

/-! ## The operations of the source table -/

theorem dropOffBus_edgeRuns (s : State) (i : Fin 16) : SameEdgeRuns s (s.dropOffBus i) := by
  have ht : SameEdgeRuns s (s.withdrawEntry (.source i)) := fun _ => rfl
  unfold State.dropOffBus
  dsimp only
  split
  · exact ht.setSource rfl
  · split <;> exact ht.setSource rfl

theorem conditionAsserts_edgeRuns (s : State) (i : Fin 16) : SameEdgeRuns s (s.conditionAsserts i) := by
  have ht : SameEdgeRuns s (s.setSource i { s.source i with condition := true }) := .put rfl
  unfold State.conditionAsserts
  dsimp only
  split
  · exact ht.trans (.put rfl)
  · exact ht.setSource rfl
  all_goals exact ht

theorem conditionDrops_edgeRuns (s : State) (i : Fin 16) : SameEdgeRuns s (s.conditionDrops i) := by
  have ht : SameEdgeRuns s (s.setSource i { s.source i with condition := false }) := .put rfl
  unfold State.conditionDrops
  dsimp only
  split
  · exact ht
  · exact ht
  · split
    · exact ht.setSource rfl
    · exact ht.trans (dropOffBus_edgeRuns _ i)
  all_goals exact ht.setSource rfl

theorem quorumReached_edgeRuns (s : State) (i : Fin 16) : SameEdgeRuns s (s.quorumReached i) := by
  have ht : SameEdgeRuns s (s.giveUpEntry (.source i)) := fun _ => rfl
  unfold State.quorumReached
  dsimp only
  split
  · exact ht.setSource rfl
  · split
    · split
      · refine SameEdgeRuns.trans ?_ (.put (i := i) rfl)
        exact ht.setSource rfl
      · exact ht.setSource rfl
    · exact ht.setSource rfl

theorem testQuorum_edgeRuns (s : State) (i : Fin 16) : SameEdgeRuns s (s.testQuorum i) := by
  unfold State.testQuorum
  split
  · exact quorumReached_edgeRuns s i
  · exact .refl s

theorem releaseAt_edgeRuns (s : State) (i : Fin 16) (a : Addr) (k : InstNo) : SameEdgeRuns s (s.releaseAt i a k) := by
  unfold State.releaseAt
  dsimp only
  split_ifs
  all_goals try exact fun _ => rfl
  · refine SameEdgeRuns.trans ?_ (testQuorum_edgeRuns _ i)
    exact .put rfl
  · exact .put rfl

theorem waiveAt_edgeRuns (s : State) (i : Fin 16) (a : Addr) : SameEdgeRuns s (s.waiveAt i a) := by
  unfold State.waiveAt
  dsimp only
  split
  · split
    · exact .put rfl
    · refine SameEdgeRuns.trans ?_ (testQuorum_edgeRuns _ i)
      exact .put rfl
  · exact .refl s

theorem releaseExpired_edgeRuns (s : State) (i : Fin 16) : SameEdgeRuns s (s.releaseExpired i) := by
  unfold State.releaseExpired
  dsimp only
  split <;> exact .put rfl

theorem noteResult_edgeRuns (s : State) (r : TxResult) : SameEdgeRuns s (s.noteResult r) := by
  cases r <;> exact .of_eq rfl

theorem holdConcluded_edgeRuns (s : State) (i : Fin 16) (u : Bool) (r : TxResult) :
    SameEdgeRuns s (s.holdConcluded i u r) := by
  refine (noteResult_edgeRuns s r).trans ?_
  unfold State.holdConcluded
  generalize s.noteResult r = t
  dsimp only
  split
  · exact .refl t
  · split
    · exact .put rfl
    · refine SameEdgeRuns.trans ?_ (testQuorum_edgeRuns _ i)
      exact .put rfl

theorem clearConcluded_edgeRuns (s : State) (i : Fin 16) (r : TxResult) : SameEdgeRuns s (s.clearConcluded i r) := by
  refine (noteResult_edgeRuns s r).trans ?_
  unfold State.clearConcluded
  generalize s.noteResult r = t
  dsimp only
  have hquiet : SameEdgeRuns t (t.setSource i { t.source i with
      announced := false, predOpen := false, dropNoted := false, holdState := .quiet, releaseTimer := none,
      repeatTimer := none }).refreshOrphaned := SameEdgeRuns.put rfl
  split
  · exact hquiet.trans (.put rfl)
  · exact hquiet

theorem holdWon_edgeRuns (s : State) (i : Fin 16) (k : InstNo) : SameEdgeRuns s (s.holdWon i k) := by
  unfold State.holdWon
  dsimp only
  split
  · exact .put rfl
  · exact .refl s

/-! ## Actions -/

theorem satInc_ne_zero : ∀ x : BitVec 4, satInc x ≠ 0 := by decide

/-- A qualifying edge makes an idle entry owe its EDGE and only raises the counts of another (R11, R12, R15). -/
theorem SourceEntry.Edges.countEdge {e : SourceEntry} {p : Bool → Bool → Prop} (h : e.Edges p) (hh : e.isHold = false)
    (d : Direction) : (e.countEdge d).1.Edges p := by
  obtain ⟨⟨_, hpend, hnext⟩, hlist, hown⟩ := h
  have hhold : ∀ f : SourceEntry, f.mode = e.mode → f.origin = e.origin → f.isHold = false := by
    intro f hm ho
    rw [SourceEntry.isHold, hm, ho]
    exact hh
  unfold SourceEntry.countEdge
  split
  · next hst =>
    have hnone : ∀ b u, ¬p b u := SourceEntry.Edges.not_listed ⟨⟨by simp [hh], hpend, hnext⟩, hlist, hown⟩ (.inl hst)
    exact .unlisted ⟨by simp [hhold], by simp, by simp [hnext, hst]⟩ (.inr rfl) hnone
  · next hst =>
    exact ⟨⟨by simp [hhold], by simpa [hst] using satInc_ne_zero _, by simp [hnext, hst]⟩, hlist, hown⟩
  · next hst =>
    exact ⟨⟨by simp [hhold], by simpa [hst] using satInc_ne_zero _, by simp [hnext, hst]⟩, hlist, hown⟩
  · next hst =>
    exact ⟨⟨by simp [hhold], by simpa [hst] using hpend, by simp [hst]⟩, hlist, hown⟩

theorem Mode.not_hold_of_counts {m : Mode} {o : Origin} {d : Direction} (h : m.counts o d = true) : m.isHold = false := by
  cases m with
  | holdHigh | holdLow => cases o <;> simp [Mode.counts] at h
  | edgeRise | edgeFall | edgeBoth | reserved => rfl

theorem EdgeTable.takeEdge {s : State} (hs : EdgeTable s) {i : Fin 16} {o : Origin} {d : Direction}
    (h : (s.source i).mode.counts o d = true) : EdgeTable (s.takeEdge i d) := by
  have hhold : (s.source i).isHold = false := by simp [SourceEntry.isHold, Mode.not_hold_of_counts h]
  have hput : EdgeTable (s.setSource i ((s.source i).countEdge d).1) :=
    hs.put rfl (fun _ _ _ _ => Iff.rfl) ((hs i).countEdge hhold d)
  unfold State.takeEdge
  dsimp only
  split
  · exact hput
  · exact hput

theorem SourceEffect.edgeRuns {s t : State} (h : SourceEffect s t) :
    SameEdgeRuns s t ∨ ∃ i o d, (s.source i).mode.counts o d = true ∧ t = s.takeEdge i d := by
  cases h with
  | tallied | latched | unlatched => exact .inl (.of_eq rfl)
  | edge i o d h => exact .inr ⟨i, o, d, h, rfl⟩
  | asserts i => exact .inl (conditionAsserts_edgeRuns s i)
  | drops i => exact .inl (conditionDrops_edgeRuns s i)
  | release i a k => exact .inl (releaseAt_edgeRuns s i a k)
  | waiver i a => exact .inl (waiveAt_edgeRuns s i a)
  | releaseExpiry i => exact .inl (releaseExpired_edgeRuns s i)
  | repeatExpiry i => exact .inl (.put rfl)

theorem ActionEffect.edgeRuns {s t : State} (h : ActionEffect s t) :
    SameEdgeRuns s t ∨ ∃ i o d, (s.source i).mode.counts o d = true ∧ t = s.takeEdge i d := by
  cases h with
  | source h => exact h.edgeRuns
  | gen h =>
    obtain ⟨_, _, _, _, _, rfl⟩ := h.runSide
    exact .inl (.of_eq rfl)
  | table h =>
    obtain ⟨_, _, _, _, _, _, _, rfl⟩ := h.tableSide
    exact .inl (.of_eq rfl)

theorem EdgeTable.noEdgeOf_givesUp {s : State} (hs : EdgeTable s) {p : Producer} (h : s.GivesUp p) : NoEdgeOf p s.tx := by
  rcases h with ⟨j, rfl⟩ | ⟨i, rfl, hi⟩
  · exact fun _ hp => absurd hp (by simp)
  · exact hs.noEdgeOf_hold hi

/-- An action that is no edge keeps the EDGE frames of the list, and the head at an attempt. -/
theorem ActionEffect.keeps_edges {s t : State} (h : ActionEffect s t) (htx : TxSafe s)
    (hs : EdgeTable s ∧ AttemptWon s) : EdgeTable t ∧ AttemptWon t := by
  have hact : t.bus.activity = s.bus.activity := by rw [h.side.bus_eq]
  have hlist : SameEdges s.tx t.tx ∧ (HeadOnBus s.tx → t.tx.head?.map TxEntry.beenOnBus = s.tx.head?.map TxEntry.beenOnBus) := by
    rcases h.tx_cases with heq | ⟨p, hp, heq | heq⟩
    · exact heq ▸ ⟨.refl _, fun _ => rfl⟩
    · exact heq ▸ ⟨sameEdges_giveUp (hs.1.noEdgeOf_givesUp hp), head_giveUp⟩
    · exact heq ▸ ⟨sameEdges_withdrawWaiting (hs.1.noEdgeOf_givesUp hp), head_withdrawWaiting⟩
  refine ⟨?_, hs.2.of_head htx hact hlist.2⟩
  rcases h.edgeRuns with hrun | ⟨i, o, d, hc, rfl⟩
  · exact hs.1.of_same hrun hlist.1
  · exact hs.1.takeEdge hc

end Sys2Proof.Machine
end

section
/-! PROOF. The invariant of the edge side of the source table, continued: admission, wins, returns, conclusions and
flushes, and the obligation on the source table. -/

namespace Sys2Proof.Machine

variable {A : Prop}

/-! ## Admission -/

theorem setRecordState_sources (s : State) (j : Fin 8) (st : RecordState) (b : Bool) :
    (s.setRecordState j st b).sources = s.sources := rfl

theorem tellAdmitted_edgeRuns (s : State) {e : TxEntry} (h : ∀ i, ¬(e.kind = .edge ∧ e.producer = .source i)) :
    SameEdgeRuns s (s.tellAdmitted e) := by
  unfold State.tellAdmitted
  split
  · exact .of_eq (setRecordState_sources _ _ _ _)
  · next i hp =>
    rw [if_neg fun hk => h i ⟨hk, hp⟩]
    exact .refl s
  · exact .of_eq rfl
  · split <;> exact .of_eq rfl

/-- The demand of an EDGE comes from an entry in OWED, or is already in the list. -/
def EdgeOwed (s : State) (e : TxEntry) : Prop :=
  e.kind = .edge → ∀ i, e.producer = .source i → (s.source i).edgeState = .owed ∨ hasEntry (.source i) s.tx = true

theorem demands_edgeOwed {s : State} {e : TxEntry} (h : e ∈ s.demands) : EdgeOwed s e := by
  intro hk i hp
  simp only [State.demands, List.mem_append, List.mem_filterMap, Option.mem_toList] at h
  rcases h with ((((⟨j, _, h⟩ | ⟨i, _, h⟩) | h) | ⟨j, _, h⟩) | h) | h
  · unfold State.recordDemand at h
    split at h
    · split at h
      · cases h; cases hk
      · cases h
    · cases h
  · unfold State.holdDemand at h
    dsimp only at h
    split at h <;> cases h <;> cases hk
  · unfold State.joinDemand at h
    split at h <;> cases h
    cases hk
  · unfold State.edgeDemand at h
    split at h
    · next ho =>
      cases h
      cases hp
      exact .inl (by simpa [SourceEntry.owesEdge] using ho)
    · cases h
  · unfold State.reportDemand at h
    split at h
    · split at h <;> cases h
      cases hk
    · cases h
  · unfold State.presenceDemand at h
    split at h <;> cases h
    cases hk

theorem EdgeTable.admitOne {s : State} {e : TxEntry} (hs : EdgeTable s)
    (he : e.beenOnBus = false ∧ e.unwanted = false) (howed : EdgeOwed s e) : EdgeTable (s.admitOne e) := by
  by_cases h : s.Admissible e
  · rw [admitOne_of_admissible h]
    have hlist : ∀ i b u, EdgeIn (admitEntry e s.tx) i b u ↔ EdgeIn (e :: s.tx) i b u :=
      EdgeIn.perm (admitEntry_perm e s.tx)
    by_cases hedge : ∃ i, e.kind = .edge ∧ e.producer = .source i
    · obtain ⟨i, hk, hp⟩ := hedge
      have hnone := hasEntry_eq_false_iff.2 h.2.2
      rw [hp] at hnone
      have hst : (s.source i).edgeState = .owed := (howed hk i hp).resolve_right (by simp [hnone])
      have hfit := (hs i).1
      have hold : (s.source i).isHold = false := Bool.eq_false_iff.2 fun hh => by simpa [hst] using hfit.1 hh
      have htell : (s.setTx (admitEntry e s.tx)).tellAdmitted e =
          (s.setTx (admitEntry e s.tx)).setSource i { s.source i with edgeState := .listed } := by
        rw [State.tellAdmitted, hp]
        simp only [hk, if_true]
        rfl
      have hothers : ∀ b u, ¬EdgeIn s.tx i b u := (hs i).not_listed (.inr hst)
      rw [htell]
      refine EdgeTable.put (s := s) (i := i) (e := { s.source i with edgeState := .listed }) hs rfl
        (fun j hj b u => ?_) ⟨?_, fun b u hin => ?_, fun _ => ⟨false, false, ?_⟩⟩
      · change EdgeIn (admitEntry e s.tx) j b u ↔ _
        rw [hlist, edgeIn_cons_of_not]
        rintro ⟨_, hpj⟩
        rw [hp] at hpj
        cases hpj
        exact hj rfl
      · exact ⟨fun hh => absurd (hold.symm.trans hh) (by simp), by simpa [hst] using hfit.2.1, by simpa [hst] using hfit.2.2⟩
      · have hin' := (hlist i b u).1 hin
        rw [edgeIn_cons, or_iff_left (hothers b u)] at hin'
        obtain ⟨_, _, hb, hu⟩ := hin'
        rw [he.1] at hb
        rw [he.2] at hu
        exact ⟨hu.symm, by simp [← hb]⟩
      · exact (hlist i _ _).2 ((edgeIn_cons _ _ _ _ _).2 (.inl ⟨hk, hp, he⟩))
    · have hedge' : ∀ i, ¬(e.kind = .edge ∧ e.producer = .source i) := fun i hi => hedge ⟨i, hi⟩
      refine hs.of_same (SameEdgeRuns.trans (t := s.setTx (admitEntry e s.tx)) (fun _ => rfl) (tellAdmitted_edgeRuns _ hedge')) ?_
      rw [tellAdmitted_tx]
      exact fun i b u => (hlist i b u).trans (edgeIn_cons_of_not _ (hedge' i) b u)
  · rwa [admitOne_of_not h]

/-- An admission leaves the other demands what they were. -/
theorem EdgeOwed.admitOne {s : State} {d e : TxEntry} (hd : EdgeOwed s d) : EdgeOwed (s.admitOne e) d := by
  by_cases h : s.Admissible e
  · rw [admitOne_of_admissible h]
    intro hk i hp
    rw [tellAdmitted_tx]
    have hmem : ∀ p, hasEntry p (admitEntry e s.tx) = true ↔ e.producer = p ∨ hasEntry p s.tx = true := fun p => by
      simp only [hasEntry, List.any_eq_true, decide_eq_true_eq, (admitEntry_perm e s.tx).mem_iff, List.mem_cons,
        exists_eq_or_imp]
    change _ ∨ hasEntry (.source i) (admitEntry e s.tx) = true
    rw [hmem]
    by_cases hpe : e.producer = .source i
    · exact .inr (.inl hpe)
    · refine (hd hk i hp).imp (fun howed => ?_) .inr
      rw [← howed]
      unfold State.tellAdmitted
      split
      · rfl
      · next j hpj =>
        split
        · rw [State.source_setSource, if_neg (fun hji : j = i => hpe (hji ▸ hpj))]
          rfl
        · rfl
      · rfl
      · split <;> rfl
  · rwa [admitOne_of_not h]

theorem AttemptWon.admitOne {s : State} {e : TxEntry} (hs : AttemptWon s) (htx : TxSafe s) : AttemptWon (s.admitOne e) := by
  by_cases h : s.Admissible e
  · rw [admitOne_of_admissible h]
    refine hs.of_head htx (by rw [tellAdmitted_bus]; rfl) fun hh => ?_
    rw [tellAdmitted_tx]
    exact congrArg _ (head_admitEntry hh)
  · rwa [admitOne_of_not h]

theorem EdgeTable.admitOwed {s : State} (htx : TxSafe s) (hs : EdgeTable s ∧ AttemptWon s) :
    EdgeTable s.admitOwed ∧ AttemptWon s.admitOwed := by
  have hfold : ∀ (l : List TxEntry) (t : State), TxSafe t → EdgeTable t ∧ AttemptWon t →
      (∀ e ∈ l, (e.onBus = false ∧ e.beenOnBus = false ∧ e.unwanted = false) ∧ EdgeOwed t e) →
      EdgeTable (l.foldl State.admitOne t) ∧ AttemptWon (l.foldl State.admitOne t) := by
    intro l
    induction l with
    | nil => exact fun t _ ht _ => ht
    | cons e l ih =>
      intro t htx ht hl
      obtain ⟨⟨hon, hfresh⟩, howed⟩ := hl e (by simp)
      refine ih _ (htx.admitOne hon) ⟨ht.1.admitOne hfresh howed, ht.2.admitOne htx⟩ fun d hd => ?_
      have hrest := hl d (by simp [hd])
      exact ⟨hrest.1, hrest.2.admitOne⟩
  refine hfold s.demands s htx hs fun e he => ⟨?_, demands_edgeOwed he⟩
  obtain ⟨_, _, _, _, rfl⟩ := demands_fresh he
  exact ⟨rfl, rfl, rfl⟩

theorem EdgeTable.offerHead {s : State} (hs : EdgeTable s ∧ AttemptWon s) :
    EdgeTable s.offerHead ∧ AttemptWon s.offerHead := by
  unfold State.offerHead
  split
  · exact hs
  · next h t ht =>
    split
    · refine ⟨hs.1.of_same (fun _ => rfl) fun i b u => ?_, fun st hst => by cases hst⟩
      change EdgeIn ({ h with onBus := true } :: t) i b u ↔ _
      rw [ht, edgeIn_cons, edgeIn_cons]
    · exact hs

/-! ## Wins -/

theorem tellWon_edgeRuns (s : State) {e : TxEntry} (h : ∀ i, ¬(e.kind = .edge ∧ e.producer = .source i)) :
    SameEdgeRuns s (s.tellWon e) := by
  unfold State.tellWon
  split
  · split
    · exact .refl s
    · exact .of_eq (setRecordState_sources _ _ _ _)
  · next i hp =>
    split
    · next hk => exact absurd ⟨hk, hp⟩ (h i)
    · split
      · exact holdWon_edgeRuns s _ _
      · exact .refl s
    all_goals exact .refl s
  · exact .of_eq rfl
  · exact .refl s

/-- The head of a list in order is the one entry of its producer. -/
theorem TxSafe.noEdgeOf_rest {s : State} {e : TxEntry} {rest : List TxEntry} (hs : TxSafe s) (ht : s.tx = e :: rest) :
    NoEdgeOf e.producer rest := noEdgeOf_of_ne (producer_ne_of_txSafe hs ht)

theorem EdgeTable.headWon {s : State} {e : TxEntry} {rest : List TxEntry} (hs : EdgeTable s) (htx : TxSafe s)
    (ht : s.tx = e :: rest) : EdgeTable (s.headWon e rest) := by
  unfold State.headWon
  split
  · exact hs
  · next hbeen =>
    rw [Bool.not_eq_true] at hbeen
    generalize hf : ({ e with seq := some s.bus.sequence, beenOnBus := true, msg := s.capture e } : TxEntry) = f
    have hkind : f.kind = e.kind := by rw [← hf]
    have hprod : f.producer = e.producer := by rw [← hf]
    have hflags : f.beenOnBus = true ∧ f.unwanted = e.unwanted := by rw [← hf]; exact ⟨rfl, rfl⟩
    generalize hb : ({ s.bus with sequence := s.bus.sequence + 1 } : BusInterface) = bus
    by_cases hedge : ∃ i, e.kind = .edge ∧ e.producer = .source i
    · obtain ⟨i, hk, hp⟩ := hedge
      have hlisted : EdgeIn s.tx i false e.unwanted := ⟨e, by simp [ht], hk, hp, hbeen, rfl⟩
      have hwanted : e.unwanted = false := ((hs i).2.1 _ _ hlisted).1
      have hst : (s.source i).edgeState = .listed := by simpa using ((hs i).2.1 _ _ hlisted).2
      have hnone : ∀ b u, ¬EdgeIn rest i b u := htx.noEdgeOf_rest ht i hp
      have hfit := (hs i).1
      have htell : ((s.setTx (f :: rest)).setBus bus).tellWon e =
          ((s.setTx (f :: rest)).setBus bus).setSource i { s.source i with edgeState := .sending, nextCount := 0 } := by
        unfold State.tellWon
        rw [hp]
        simp only [hk]
        rfl
      rw [htell]
      refine EdgeTable.put (s := s) (i := i) (e := { s.source i with edgeState := .sending, nextCount := 0 }) hs rfl
        (fun j hj b u => ?_) ⟨?_, fun b u hin => ?_, fun _ => ⟨true, false, ?_⟩⟩
      · change EdgeIn (f :: rest) j b u ↔ _
        have hne : e.producer ≠ .source j := fun hpj => hj (by rw [hp] at hpj; cases hpj; rfl)
        rw [ht, edgeIn_cons_of_not _ (fun h => hne h.2), edgeIn_cons_of_not _ (fun h => hne (hprod ▸ h.2))]
      · exact ⟨fun hh => absurd (hfit.1 hh) (by simp [hst]), by simpa [hst] using hfit.2.1, by simp⟩
      · have hin' : EdgeIn (f :: rest) i b u := hin
        rw [edgeIn_cons, or_iff_left (hnone b u)] at hin'
        obtain ⟨_, _, hb', hu⟩ := hin'
        rw [hflags.1] at hb'
        rw [hflags.2, hwanted] at hu
        exact ⟨hu.symm, by simp [← hb']⟩
      · exact ⟨f, .head _, hkind.trans hk, hprod.trans hp, hflags.1, hflags.2.trans hwanted⟩
    · have hedge' : ∀ i, ¬(e.kind = .edge ∧ e.producer = .source i) := fun i hi => hedge ⟨i, hi⟩
      refine hs.of_same (SameEdgeRuns.trans (t := (s.setTx (f :: rest)).setBus bus) (fun _ => rfl)
        (tellWon_edgeRuns _ hedge')) fun i b u => ?_
      rw [tellWon_tx]
      change EdgeIn (f :: rest) i b u ↔ _
      rw [ht, edgeIn_cons_of_not _ (hedge' i), edgeIn_cons_of_not]
      rw [hkind, hprod]
      exact hedge' i

/-- The win of another entry drops a WAITING PRESENCE, and no EDGE (R159). -/
theorem EdgeTable.beaconWon {s : State} (hs : EdgeTable s) (k : Kind) : EdgeTable (s.beaconWon k) := by
  unfold State.beaconWon
  split
  · exact hs
  · refine hs.of_same (fun _ => rfl) fun i b u => exists_congr fun x => and_congr_left fun hx => ?_
    change x ∈ s.tx.filter _ ↔ _
    simp [hx.1]

theorem EdgeTable.won {s : State} {st : BitVec 4} (hs : EdgeTable s) (htx : TxSafe s)
    (hact : s.bus.activity = .contending st) : EdgeTable (s.won st) ∧ AttemptWon (s.won st) := by
  obtain ⟨e, rest, ht, he⟩ := htx.head_of_active (by simp [hact])
  constructor
  · have hwon : EdgeTable ((s.headWon e rest).beaconWon e.kind) := (hs.headWon htx ht).beaconWon _
    unfold State.won
    rw [ht]
    exact hwon
  · obtain ⟨f, m, hm, _, hbeen, _⟩ := won_tx st ht he
    intro _ _ x hx
    rw [hm] at hx
    cases hx
    exact hbeen

/-! ## Returns -/

theorem tellReturned_edgeRuns (s : State) (e : TxEntry) : SameEdgeRuns s (s.tellReturned e) := by
  unfold State.tellReturned
  split
  · exact fun _ => rfl
  · split
    · unfold State.holdReturned
      split
      · exact dropOffBus_edgeRuns s _
      · exact .refl s
    all_goals exact .refl s

theorem tellReturned_sameEdges {s : State} {e : TxEntry} (h : e.unwanted = true ∨ e.kind = .hold → NoEdgeOf e.producer s.tx) :
    SameEdges s.tx (s.tellReturned e).tx := by
  unfold State.tellReturned
  split
  · next hu => exact sameEdges_withdrawWaiting (h (.inl hu))
  · split
    · next i hp hk =>
      unfold State.holdReturned
      split
      · rw [dropOffBus_tx, ← hp]
        exact sameEdges_withdrawWaiting (h (.inr hk))
      · exact .refl _
    all_goals exact .refl _

/-- A head that returns to WAITING (R131) keeps the EDGE frames of the list. -/
theorem EdgeTable.headReturned {s t : State} {e e' : TxEntry} {rest : List TxEntry} (hs : EdgeTable s) (htx : TxSafe s)
    (ht : s.tx = e :: rest) (hrun : SameEdgeRuns s t)
    (he : e'.kind = e.kind ∧ e'.producer = e.producer ∧ e'.beenOnBus = e.beenOnBus ∧ e'.unwanted = e.unwanted) :
    EdgeTable (t.headReturned e' rest) := by
  obtain ⟨hkind, hprod, hbeen, hunw⟩ := he
  have hback : SameEdges s.tx (returnEntry e' rest) := fun i b u => by
    rw [EdgeIn.perm (returnEntry_perm e' rest), ht, edgeIn_cons, edgeIn_cons, ← hkind, ← hprod, ← hbeen, ← hunw]
  have hnone : e'.unwanted = true ∨ e'.kind = .hold → NoEdgeOf e'.producer (returnEntry e' rest) := by
    intro h i hi b u hin
    have hin' := (hback i b u).1 hin
    rw [ht, edgeIn_cons] at hin'
    rcases hin' with ⟨hk, hp, _, _⟩ | hin'
    · rcases h with h | h
      · have hw := ((hs i).2.1 e.beenOnBus e.unwanted ⟨e, by simp [ht], hk, hp, rfl, rfl⟩).1
        rw [← hunw, h] at hw
        cases hw
      · rw [← hkind, h] at hk
        cases hk
    · exact htx.noEdgeOf_rest ht i (hprod ▸ hi) b u hin'
  refine hs.of_same (SameEdgeRuns.trans hrun (SameEdgeRuns.trans (t := t.setTx (returnEntry e' rest)) (fun _ => rfl)
    (tellReturned_edgeRuns _ e'))) (hback.trans ?_)
  exact tellReturned_sameEdges (s := t.setTx (returnEntry e' rest)) hnone

/-! ## Conclusions -/

theorem tellConcluded_edgeRuns (s : State) {e : TxEntry} (h : ∀ i, ¬(e.kind = .edge ∧ e.producer = .source i))
    (r : TxResult) : SameEdgeRuns s (s.tellConcluded e r) := by
  unfold State.tellConcluded
  split
  · unfold State.releaseConcluded
    split
    · exact .refl s
    · exact noteResult_edgeRuns s r
  · next i hp =>
    split
    · next hk => exact absurd ⟨hk, hp⟩ (h i)
    · exact clearConcluded_edgeRuns s i r
    all_goals exact holdConcluded_edgeRuns s i _ r
  · exact noteResult_edgeRuns s r
  · split
    · rw [enterState_free rfl]
      exact noteResult_edgeRuns s r
    · exact .refl s

/-- A head that leaves the list (R16, R17, R136, R137). -/
theorem EdgeTable.headRemoved {s t : State} {e : TxEntry} {rest : List TxEntry} (hs : EdgeTable s) (htx : TxSafe s)
    (ht : s.tx = e :: rest) (hsrc : t.sources = s.sources) (r : TxResult) :
    EdgeTable ((t.setTx rest).tellConcluded e r) := by
  by_cases hedge : ∃ i, e.kind = .edge ∧ e.producer = .source i
  · obtain ⟨i, hk, hp⟩ := hedge
    have hnone : ∀ b u, ¬EdgeIn rest i b u := htx.noEdgeOf_rest ht i hp
    have hsource : ((t.setTx rest).noteResult r).source i = s.source i := by
      have hnote : ((t.setTx rest).noteResult r).sources = s.sources := by
        rw [← hsrc]
        cases r <;> rfl
      rw [State.source, hnote]
      rfl
    have htell : (t.setTx rest).tellConcluded e r = (t.setTx rest).edgeConcluded i r := by
      rw [State.tellConcluded, hp]
      simp only [hk]
    have hst : (s.source i).edgeState ≠ .idle := by
      have h := ((hs i).2.1 e.beenOnBus e.unwanted ⟨e, by simp [ht], hk, hp, rfl, rfl⟩).2
      rw [h]
      split <;> simp
    have hold : (s.source i).isHold = false := Bool.eq_false_iff.2 fun hh => hst ((hs i).1.1 hh)
    rw [htell]
    refine EdgeTable.put (s := s) (i := i) (e := { s.source i with
        pendingCount := (s.source i).nextCount
        nextCount := 0
        edgeState := if (s.source i).nextCount = 0 then .idle else .owed }) hs ?_ (fun j hj b u => ?_) ?_
    · unfold State.edgeConcluded
      dsimp only
      rw [State.setSource_sources, ← hsource, ← hsrc]
      cases r <;> rfl
    · have htxc : ((t.setTx rest).edgeConcluded i r).tx = rest := noteResult_tx (t.setTx rest) r
      rw [htxc, ht, edgeIn_cons_of_not]
      rintro ⟨_, hpj⟩
      rw [hp] at hpj
      cases hpj
      exact hj rfl
    · have htxc : ((t.setTx rest).edgeConcluded i r).tx = rest := noteResult_tx (t.setTx rest) r
      rw [htxc]
      refine .unlisted ⟨fun hh => absurd (hold.symm.trans hh) (by simp), ?_, fun _ => rfl⟩ ?_ hnone
      · dsimp only
        split
        · next h0 => simp [h0]
        · next h0 => simpa using h0
      · dsimp only
        split
        · exact .inl rfl
        · exact .inr rfl
  · have hedge' : ∀ i, ¬(e.kind = .edge ∧ e.producer = .source i) := fun i hi => hedge ⟨i, hi⟩
    have hrun : SameEdgeRuns s (t.setTx rest) := SameEdgeRuns.of_eq hsrc
    refine hs.of_same (hrun.trans (tellConcluded_edgeRuns _ hedge' r)) ?_
    have hrest : SameEdges s.tx rest := fun i b u => by rw [ht, edgeIn_cons_of_not _ (hedge' i)]
    rcases tellConcluded_tx (t.setTx rest) e r with htell | htell
    · rw [htell]
      exact hrest
    · rw [htell]
      exact hrest.trans (sameEdges_giveUp (htx.noEdgeOf_rest ht))

theorem EdgeTable.headConcluded {s t : State} {e : TxEntry} {rest : List TxEntry} (hs : EdgeTable s) (htx : TxSafe s)
    (ht : s.tx = e :: rest) (hsrc : t.sources = s.sources) (a : Attempt) : EdgeTable (t.headConcluded e rest a) := by
  unfold State.headConcluded
  split
  · exact hs.headRemoved htx ht hsrc _
  · exact hs.headReturned htx ht (.of_eq hsrc) ⟨rfl, rfl, rfl, rfl⟩

/-! ## Flushes -/

theorem countTimes_sources (s : State) (t : TallyName) (n : Nat) : (s.countTimes t n).sources = s.sources := by
  induction n generalizing s with
  | zero => rfl
  | succ n ih => exact ih (s.count t)

/-- A source entry after the flush of its EDGE (R19). -/
def SourceEntry.flushed (e : SourceEntry) : SourceEntry :=
  { e with pendingCount := (limitedSum e.pendingCount e.nextCount).1, nextCount := 0, edgeState := .owed }

theorem edgeFlushed_sources (s : State) (i : Fin 16) :
    (s.edgeFlushed i).sources = upd s.sources i (s.source i).flushed := by
  unfold State.edgeFlushed
  dsimp only
  split
  · exact countTimes_sources _ _ _
  · exact countTimes_sources (s.setSource i (s.source i).flushed) .lostEdges _

theorem tellFlushed_sources (s : State) (e : TxEntry) : (s.tellFlushed e).sources = s.sources ∨
    ∃ i, e.kind = .edge ∧ e.producer = .source i ∧ (s.tellFlushed e).sources = upd s.sources i (s.source i).flushed := by
  unfold State.tellFlushed
  split
  · refine .inl ?_
    split <;> rfl
  · next i hp =>
    split
    · next hk => exact .inr ⟨i, hk, hp, edgeFlushed_sources s i⟩
    · exact .inl rfl
  · exact .inl rfl
  · refine .inl ?_
    split <;> rfl

theorem tellFlushed_sources_of_edge {s : State} {e : TxEntry} {i : Fin 16} (hk : e.kind = .edge)
    (hp : e.producer = .source i) : (s.tellFlushed e).sources = upd s.sources i (s.source i).flushed := by
  unfold State.tellFlushed
  rw [hp]
  simp only [hk, if_true]
  exact edgeFlushed_sources s i

theorem limitedSum_ne_zero : ∀ a b : BitVec 4, a ≠ 0 → (limitedSum a b).1 ≠ 0 := by decide

theorem SourceEntry.EdgeFits.flushed {e : SourceEntry} (h : e.EdgeFits) (hst : e.edgeState ≠ .idle) : e.flushed.EdgeFits :=
  ⟨fun hh => absurd (h.1 hh) hst, by
    have hpend : e.pendingCount ≠ 0 := fun h0 => hst (h.2.1.1 h0)
    simpa [SourceEntry.flushed] using limitedSum_ne_zero _ e.nextCount hpend, fun _ => rfl⟩

/-- What holds while the entries `l` are still to be told that they are flushed: every entry with an EDGE among them is
not in IDLE, and every entry in LISTED or SENDING has its EDGE among them. -/
def FlushesTo (l : List TxEntry) (s : State) : Prop :=
  ∀ i : Fin 16, (s.source i).EdgeFits ∧ (∀ b u, EdgeIn l i b u → (s.source i).edgeState ≠ .idle) ∧
    ((s.source i).edgeState = .listed ∨ (s.source i).edgeState = .sending → ∃ b u, EdgeIn l i b u)

theorem FlushesTo.tellFlushed {s : State} {e : TxEntry} {l : List TxEntry} (h : FlushesTo (e :: l) s) :
    FlushesTo l (s.tellFlushed e) := by
  intro i
  obtain ⟨hfit, hlisted, hown⟩ := h i
  by_cases hedge : e.kind = .edge ∧ e.producer = .source i
  · have hst : (s.source i).edgeState ≠ .idle :=
      hlisted e.beenOnBus e.unwanted ⟨e, by simp, hedge.1, hedge.2, rfl, rfl⟩
    have hsrc : (s.tellFlushed e).source i = (s.source i).flushed := by
      rw [State.source, tellFlushed_sources_of_edge hedge.1 hedge.2, look_upd_self]
    rw [hsrc]
    exact ⟨hfit.flushed hst, fun _ _ _ => by simp [SourceEntry.flushed], fun h => by simp [SourceEntry.flushed] at h⟩
  · have hsrc : (s.tellFlushed e).source i = s.source i := by
      rcases tellFlushed_sources s e with heq | ⟨j, hk, hp, heq⟩
      · rw [State.source, heq]
        rfl
      · rw [State.source, heq, look_upd_ne _ _ (fun hji : j = i => hedge ⟨hk, hji ▸ hp⟩)]
        rfl
    simp only [edgeIn_cons_of_not l hedge] at hlisted hown
    rw [hsrc]
    exact ⟨hfit, hlisted, hown⟩

theorem EdgeTable.flush {s : State} (hs : EdgeTable s) : EdgeTable s.flush := by
  have hfold : ∀ (l : List TxEntry) (t : State), FlushesTo l t → FlushesTo [] (l.foldl State.tellFlushed t) := by
    intro l
    induction l with
    | nil => exact fun t ht => ht
    | cons e l ih => exact fun t ht => ih _ ht.tellFlushed
  have hstart : FlushesTo s.tx (s.setTx []) := fun i =>
    ⟨(hs i).1, fun b u h => by
      have hst := ((hs i).2.1 b u h).2
      change (s.source i).edgeState ≠ .idle
      rw [hst]
      split <;> simp, (hs i).2.2⟩
  have hend : FlushesTo [] s.flush := hfold s.tx (s.setTx []) hstart
  intro i
  rw [(flush_bus_tx s).2]
  obtain ⟨hfit, _, hown⟩ := hend i
  exact ⟨hfit, fun b u h => absurd h (not_edgeIn_nil i b u), hown⟩

/-! ## Every effect -/

theorem marked_keys (p : Producer) (f : TxEntry) :
    let g := if f.producer = p then { f with selfDelivered := true } else f
    g.kind = f.kind ∧ g.producer = f.producer ∧ g.beenOnBus = f.beenOnBus ∧ g.unwanted = f.unwanted := by
  dsimp only
  split <;> exact ⟨rfl, rfl, rfl, rfl⟩

theorem goOnline_table (s : State) (sig : Signature) : (s.goOnline sig).sources = s.sources ∧
    (s.goOnline sig).tx = s.tx ∧ (s.goOnline sig).bus.activity = s.bus.activity := by
  rw [goOnline_eq]
  exact ⟨rfl, rfl, rfl⟩

theorem configure_source (s : State) (img : List Byte) (i : Fin 16) :
    look (s.configure img).sources i = imageSource img i := look_ofFn _ i

theorem EdgeTable.of_idle {s : State} (htx : s.tx = [])
    (h : ∀ i, (s.source i).edgeState = .idle ∧ (s.source i).pendingCount = 0 ∧ (s.source i).nextCount = 0) : EdgeTable s := by
  intro i
  obtain ⟨hst, hpend, hnext⟩ := h i
  rw [htx]
  exact .unlisted ⟨fun _ => hst, by simp [hst, hpend], fun _ => hnext⟩ (.inl hst) (not_edgeIn_nil i)

theorem Effect.keeps_edges (hA : A) {s t : State} (h : Effect A s t) (htx : TxSafe s) (hs : EdgeTable s ∧ AttemptWon s) :
    EdgeTable t ∧ AttemptWon t := by
  cases h with
  | action h => exact h.keeps_edges htx hs
  | withdrawsReport =>
    have hnone : NoEdgeOf .responder s.tx := fun _ hp => by cases hp
    exact ⟨hs.1.of_same (fun _ => rfl) (sameEdges_withdrawWaiting hnone), hs.2.of_head htx rfl head_withdrawWaiting⟩
  | admits => exact EdgeTable.admitOwed htx hs
  | offers => exact EdgeTable.offerHead hs
  | wins st hact => exact hs.1.won htx hact
  | loses st hact =>
    obtain ⟨e, rest, ht, _⟩ := htx.head_of_active (by simp [hact])
    unfold State.lost
    rw [ht]
    refine ⟨hs.1.headReturned htx ht (.of_eq rfl) ⟨rfl, rfl, rfl, rfl⟩, .of_idle ?_⟩
    rw [(headReturned_side _ e rest).bus_eq]
    rfl
  | concludes st e rest a hact ht =>
    have hcount : ((s.setBus { s.bus with activity := .idle }).countAttempt a).sources = s.sources := by cases a <;> rfl
    refine ⟨hs.1.headConcluded htx ht hcount a, .of_idle ?_⟩
    have hbus := headConcluded_bus ((s.setBus { s.bus with activity := .idle }).countAttempt a) e rest a
    rw [countAttempt_bus] at hbus
    rcases hbus with hbus | hbus <;> rw [hbus] <;> rfl
  | quiets => exact ⟨hs.1, .of_idle rfl⟩
  | marks p =>
    refine ⟨hs.1.of_same (fun _ => rfl) (sameEdges_of_keys s.tx (marked_keys p)), hs.2.of_head htx rfl fun _ => ?_⟩
    rw [State.setTx_tx]
    cases s.tx with
    | nil => rfl
    | cons f l => exact congrArg some (marked_keys p f).2.2.1
  | flushes hact => exact ⟨hs.1.flush, .of_idle (by rw [(flush_bus_tx s).1, hact])⟩
  | restarts adr rate time q =>
    refine ⟨.of_idle rfl fun i => ?_, .of_idle rfl⟩
    have hsource : (s.cleared adr rate time q).source i = SourceEntry.reset := look_replicate _ i
    exact hsource ▸ ⟨rfl, rfl, rfl⟩
  | readies img hv hl h =>
    have hon := goOnline_table ((s.setLoader { s.loader with phase := .ready }).configure img) (imageSignature img)
    refine ⟨.of_idle (hon.2.1.trans (h hA).1) fun i => ?_, hs.2.of_eq hon.2.1 hon.2.2⟩
    rw [State.source, hon.1, configure_source]
    exact ⟨rfl, rfl, rfl⟩
  | evaluates i =>
    unfold State.evaluateCondition
    dsimp only
    split
    · refine ⟨hs.1.of_same ?_ (.refl _), hs.2.of_eq rfl rfl⟩
      refine SameEdgeRuns.trans (SameEdgeRuns.put (i := i) (e := { s.source i with condition := true }) rfl) ?_
      exact .put rfl
    · exact hs
  | outside | bus | beacon | reply | roster | hears | ages | faultReset | moves | loads =>
    exact ⟨hs.1, hs.2.of_eq rfl rfl⟩

/-- Settles O58, effect by effect: the hold side by itself, the edge side along with the order of the list. -/
theorem stepKeepsTheSourceTable : Obligations.StepKeepsTheSourceTable := fun s t h => by
  refine ⟨fun hh hr => ?_, fun htx hA he => ?_⟩
  · exact (holdTable_iff t).1 ((step_run h).keeps (fun _ _ => Effect.keeps_holds) ((holdTable_iff s).2 ⟨hh, hr⟩))
  · have hkeep : ∀ u v, Effect (AdmissionSafe s) u v → TxSafe u ∧ EdgeTable u ∧ AttemptWon u →
        TxSafe v ∧ EdgeTable v ∧ AttemptWon v := fun u v hv hu => ⟨hv.keeps_tx hu.1, hv.keeps_edges hA hu.1 hu.2⟩
    exact (edgesSafe_iff t).2 ((step_run h).keeps hkeep ⟨htx, (edgesSafe_iff s).1 he⟩).2

end Sys2Proof.Machine
end

section
/-! PROOF. The step, the tick of the time base, and the state after reset (R1, R177, R185). -/

namespace Sys2Proof.Machine

/-- Settles O1: the step is defined so. -/
theorem stepRunsFrontCommand : Obligations.StepRunsFrontCommand := fun _ _ _ => rfl

/-! ## The timers that are due (R1) -/

theorem dueAt_iff {now : Nat} {t : Timer} : dueAt now t = true ↔ ∃ d ∈ t, d ≤ now := by
  cases t <;> simp [dueAt]

theorem mem_genExpiry {g : Fin 8} {p : GenPhase} {c : Instr} : c ∈ genExpiry g p ↔
    (c = .delayExpiry g ∧ p = .delay) ∨ (c = .pulseExpiry g ∧ p = .pulse) ∨ (c = .gapExpiry g ∧ p = .gap) := by
  cases p <;> simp [genExpiry, eq_comm]

theorem mem_loaderExpiry {l : Loader} {c : Instr} : c ∈ loaderExpiry l ↔
    (c = .resetHoldExpiry ∧ l.phase = .resetHold) ∨
      (c = .passRetryWaitExpiry ∧ l.phase = .reading ∧ l.port = .deselected) := by
  obtain ⟨phase, _, _, _, _, _, _, _, _, port⟩ := l
  cases phase <;> cases port <;> simp [loaderExpiry, eq_comm]

theorem genExpiry_some {g : Fin 8} {p : GenPhase} {c : Instr} (h : genExpiry g p = some c) :
    c = .delayExpiry g ∨ c = .pulseExpiry g ∨ c = .gapExpiry g :=
  (mem_genExpiry.1 h).imp And.left (Or.imp And.left And.left)

/-- The due commands of the generators are distinct: each names its generator. -/
theorem genExpiries_nodup (s : State) (l : List (Fin 8)) (h : l.Nodup) :
    (l.filterMap (fun g => genExpiry g (look s.gens g).phase)).Nodup := by
  refine h.filterMap fun g g' c hc hc' => ?_
  rcases genExpiry_some hc with rfl | rfl | rfl <;> rcases genExpiry_some hc' with h | h | h <;> cases h <;> rfl

/-- The due commands of the entries of a table are distinct. -/
theorem expiries_nodup {n : Nat} {f : Fin n → Instr} (hf : Function.Injective f) (p : Fin n → Bool) :
    (((indices n).filter p).map f).Nodup := ((List.nodup_finRange n).filter p).map hf

/-- The part of the due commands to which a command belongs, in the order of log entry 4. -/
def duePart : Instr → Nat
  | .resetHoldExpiry | .passRetryWaitExpiry => 0
  | .stabilityIntervalExpiry _ => 1
  | .releaseTimerExpiry _ => 2
  | .repeatTimerExpiry _ => 3
  | .delayExpiry _ | .pulseExpiry _ | .gapExpiry _ => 4
  | .holdOffExpiry => 5
  | _ => 6

/-- The parts up to `k`, each command in it once. -/
def DueUpTo (k : Nat) (l : List Instr) : Prop := l.Nodup ∧ ∀ c ∈ l, duePart c ≤ k

theorem DueUpTo.append {k : Nat} {l m : List Instr} (h : DueUpTo k l) (hm : m.Nodup) (hk : ∀ c ∈ m, duePart c = k + 1) :
    DueUpTo (k + 1) (l ++ m) := by
  refine ⟨List.nodup_append.2 ⟨h.1, hm, fun a ha b hb hab => ?_⟩, fun c hc => ?_⟩
  · have h1 := h.2 a ha
    have h2 := hk b hb
    rw [hab] at h1
    omega
  · rcases List.mem_append.1 hc with hc | hc
    · exact (h.2 c hc).trans (Nat.le_succ k)
    · exact (hk c hc).le

theorem dueExpiries_nodup (s : State) (now : Nat) : (s.dueExpiries now).Nodup := by
  have hone : ∀ (b : Bool) (c : Instr), (if b then [c] else []).Nodup := fun b c => by cases b <;> simp
  have hmem : ∀ {b : Bool} {c d : Instr}, d ∈ (if b then [c] else []) → duePart d = duePart c := by
    intro b c d h
    cases b with
    | true => rw [List.mem_singleton.1 h]
    | false => cases h
  have hloader : DueUpTo 0 (if dueAt now s.loader.timer then (loaderExpiry s.loader).toList else []) := by
    split
    · refine ⟨by cases loaderExpiry s.loader <;> simp, fun c hc => ?_⟩
      rcases mem_loaderExpiry.1 (Option.mem_toList.1 hc) with ⟨rfl, _⟩ | ⟨rfl, _⟩ <;> exact Nat.le_refl 0
    · exact ⟨List.nodup_nil, by simp⟩
  have hgens : ∀ c ∈ ((indices 8).filter (fun g => dueAt now (look s.gens g).timer)).filterMap
      (fun g => genExpiry g (look s.gens g).phase), duePart c = 4 := by
    intro c hc
    obtain ⟨g, _, hg⟩ := List.mem_filterMap.1 hc
    rcases genExpiry_some hg with rfl | rfl | rfl <;> rfl
  have hmap : ∀ {n k : Nat} {f : Fin n → Instr} {l : List (Fin n)}, (∀ i, duePart (f i) = k) → ∀ c ∈ l.map f, duePart c = k := by
    intro n k f l hf c hc
    obtain ⟨i, _, rfl⟩ := List.mem_map.1 hc
    exact hf i
  exact ((((((hloader.append (expiries_nodup (fun _ _ h => by cases h; rfl) _) (hmap fun _ => rfl)).append
    (expiries_nodup (fun _ _ h => by cases h; rfl) _) (hmap fun _ => rfl)).append
    (expiries_nodup (fun _ _ h => by cases h; rfl) _) (hmap fun _ => rfl)).append
    (genExpiries_nodup s _ ((List.nodup_finRange 8).filter _)) hgens).append (hone _ .holdOffExpiry)
    (fun _ h => hmem (c := .holdOffExpiry) h)).append (hone _ .beaconIntervalExpiry)
    (fun _ h => hmem (c := .beaconIntervalExpiry) h)).1

theorem mem_expiries {n : Nat} {f : Fin n → Instr} {t : Fin n → Timer} {now : Nat} {c : Instr} :
    c ∈ ((indices n).filter (fun i => dueAt now (t i))).map f ↔ ∃ i, c = f i ∧ ∃ d ∈ t i, d ≤ now := by
  simp only [List.mem_map, List.mem_filter, mem_indices, true_and, dueAt_iff]
  exact exists_congr fun i => by rw [and_comm, eq_comm]

theorem mem_expiry {now : Nat} {t : Timer} {c d : Instr} :
    c ∈ (if dueAt now t then [d] else []) ↔ c = d ∧ ∃ x ∈ t, x ≤ now := by
  rw [← dueAt_iff]
  cases dueAt now t <;> simp

theorem mem_dueExpiries {s : State} {now : Nat} {c : Instr} : c ∈ s.dueExpiries now ↔
    (c ∈ loaderExpiry s.loader ∧ ∃ d ∈ s.loader.timer, d ≤ now) ∨
      (∃ n, c = .stabilityIntervalExpiry n ∧ ∃ d ∈ (s.input n).stability, d ≤ now) ∨
      (∃ i, c = .releaseTimerExpiry i ∧ ∃ d ∈ (s.source i).releaseTimer, d ≤ now) ∨
      (∃ i, c = .repeatTimerExpiry i ∧ ∃ d ∈ (s.source i).repeatTimer, d ≤ now) ∨
      (∃ g, (∃ d ∈ (s.gen g).timer, d ≤ now) ∧ c ∈ genExpiry g (s.gen g).phase) ∨
      (c = .holdOffExpiry ∧ ∃ d ∈ s.bus.holdOff, d ≤ now) ∨
      (c = .beaconIntervalExpiry ∧ ∃ d ∈ s.beacon.timer, d ≤ now) := by
  have hloader : c ∈ (if dueAt now s.loader.timer then (loaderExpiry s.loader).toList else []) ↔
      c ∈ loaderExpiry s.loader ∧ ∃ d ∈ s.loader.timer, d ≤ now := by
    rw [← dueAt_iff]
    cases dueAt now s.loader.timer <;> simp
  have hgens : c ∈ ((indices 8).filter (fun g => dueAt now (look s.gens g).timer)).filterMap
      (fun g => genExpiry g (look s.gens g).phase) ↔
      ∃ g, (∃ d ∈ (s.gen g).timer, d ≤ now) ∧ c ∈ genExpiry g (s.gen g).phase := by
    simp only [List.mem_filterMap, List.mem_filter, mem_indices, true_and, dueAt_iff]
    exact Iff.rfl
  simp only [State.dueExpiries, List.mem_append, hloader, mem_expiries, hgens, mem_expiry, or_assoc]
  exact Iff.rfl

/-- Settles O2: the queue of a tick is the list of due commands, part by part. -/
theorem emptyQueueTicks : Obligations.EmptyQueueTicks := by
  intro s hs
  refine ⟨by unfold step; rw [hs]; rfl, dueExpiries_nodup _ _, fun c => ?_⟩
  rw [mem_dueExpiries, mem_loaderExpiry]
  simp only [mem_genExpiry, or_and_right, and_assoc, or_assoc]

/-! ## The state after a full reset (R177, R185) and after power-on -/

/-- Settles O3: the cleared state, field by field. -/
theorem fullResetTakesStrapsAndClears : Obligations.FullResetTakesStrapsAndClears := by
  intro adr rate s
  refine ⟨s.cleared adr rate 0 0, rfl, ?_⟩
  have hroster : ∀ a, look (s.cleared adr rate 0 0).roster a = RosterEntry.reset adr a := fun a => look_ofFn _ a
  have hown : ∀ a : Fin 32, adr.toNat = a.val ↔ a = addrIdx adr := fun a => by
    rw [Fin.ext_iff, eq_comm]
    rfl
  refine ⟨rfl, rfl, rfl, rfl, rfl, rfl, rfl, rfl, rfl, rfl, rfl, rfl, rfl, rfl, rfl, rfl, rfl, rfl,
    fun k => by cases k <;> rfl, rfl, fun n => look_replicate _ n, fun n => look_replicate _ n, fun i => look_replicate _ i,
    fun j => look_replicate _ j, rfl, fun k => look_replicate _ k, fun m => look_replicate _ m, fun p => look_replicate _ p,
    fun g => look_replicate _ g, fun o => look_replicate _ o, fun c => look_replicate _ c, rfl, rfl, fun a => ?_,
    rfl, rfl, rfl, rfl, rfl, rfl, rfl, rfl, rfl⟩
  rw [hroster]
  simp only [RosterEntry.reset, hown]

/-- The state at power-on is the one that a full reset leaves (R185). -/
theorem reset_eq_cleared : State.reset = State.reset.cleared 0 0 0 0 := rfl

/-- Settles O60: every table is empty or as reset leaves it. -/
theorem resetIsSafe : Obligations.ResetIsSafe := by
  have hsource : ∀ i, State.reset.source i = SourceEntry.reset := fun i => look_replicate _ i
  have hgen : ∀ g, State.reset.gen g = Generator.reset := fun g => look_replicate _ g
  have hout : ∀ o, State.reset.out o = OutputLine.reset := fun o => look_replicate _ o
  have hslot : ∀ j, State.reset.slot j = none := fun j => look_replicate _ j
  have hholds := (holdTable_iff State.reset).1 (reset_eq_cleared ▸ HoldTable.cleared State.reset 0 0 0 0)
  have hedges : EdgeTable State.reset := .of_idle rfl fun i => by
    rw [hsource]
    exact ⟨rfl, rfl, rfl⟩
  have hroster : RosterSafe State.reset := fun a => by
    have hentry : look State.reset.roster a = RosterEntry.reset 0 a := look_ofFn _ a
    rw [hentry]
    revert a
    decide
  refine ⟨(txSafe_iff _).2 ⟨txInOrder_nil, by simp [State.reset, BusInterface.reset]⟩, ⟨fun _ _ => rfl, fun _ _ => rfl⟩, by decide, hroster,
    fun c => ?_, fun o => ?_, GeneratorsSafe.of_idle (fun g => ?_) (fun o => ?_), hholds.2, hholds.1, ?_,
    fun _ => ⟨rfl, rfl, rfl, rfl, rfl⟩, (edgesSafe_iff _).2 ⟨hedges, .of_idle rfl⟩⟩
  · have hcounter : State.reset.counter c = Counter.reset := look_replicate _ c
    rw [hcounter]
    decide
  · rw [hout]
    rfl
  · rw [hgen]
    rfl
  · rw [hout]
    rfl
  · refine ⟨fun j r hr => ?_, fun i j q hq => ?_, List.nodup_nil, fun j => ?_⟩
    · cases (hslot j).symm.trans hr
    · cases (hslot i).symm.trans hq
    · have hage : State.reset.ageOrder = [] := rfl
      simp [hslot, hage]

/-! ## What a line shows (R96) and FLT (R174) -/

theorem nonEmpty_iff (f : FaultSet) : f.nonEmpty = true ↔ ∃ k, f.has k = true := by
  simp only [FaultSet.nonEmpty, Bool.or_eq_true]
  constructor
  · rintro ((((((((h | h) | h) | h) | h) | h) | h) | h) | h)
    exacts [⟨.configFailed, h⟩, ⟨.withdrawn, h⟩, ⟨.orphaned, h⟩, ⟨.addressConflict, h⟩, ⟨.undelivered, h⟩,
      ⟨.acceptOverflow, h⟩, ⟨.lostEdges, h⟩, ⟨.collision, h⟩, ⟨.imageMismatch, h⟩]
  · rintro ⟨k, hk⟩
    cases k <;> simp only [FaultSet.has] at hk <;> simp [hk]

/-- Settles O23: by the flag, the claim and the static level of the line. -/
theorem linesAndFltShowTheirState : Obligations.LinesAndFltShowTheirState := by
  intro s o
  refine ⟨nonEmpty_iff s.faults, fun h => ?_, fun g h hg => ?_, fun h hn => ?_⟩
  · simp [State.shown, h]
  · simp [State.shown, h, hg]
  · simp [State.shown, h, hn]

end Sys2Proof.Machine
end

section
/-! PROOF. The start of a read pass, the check of the header and the end of a pass with a fault (R178–R184). -/

namespace Sys2Proof.Machine

/-- A running timer takes the time base to its end (log entry 3). -/
theorem reach_eq {s : State} {t : Timer} {d : Nat} (h : t = some d) : s.reach t = s.setTime (max s.time d) := by
  rw [h]
  rfl

/-- Settles O4: a pass begins at the end of either timer. -/
theorem expiryBeginsReadPass : Obligations.ExpiryBeginsReadPass := by
  intro s d hd
  refine ⟨fun h => ?_, fun h hp => ?_, rfl, rfl, fun l hl => ?_⟩
  · have hexec : exec .resetHoldExpiry s = .next (s.reach s.loader.timer).beginPass := if_pos h
    rw [hexec, reach_eq hd]
    rfl
  · have hexec : exec .passRetryWaitExpiry s = .next (s.reach s.loader.timer).beginPass :=
      if_pos (by simp [Loader.waiting, h, hp])
    rw [hexec, reach_eq hd]
    rfl
  · cases hp : l.port with
    | selected => exact absurd hp hl
    | holdLevels | deselected => exact ⟨rfl, by simp [Loader.mdo, hp]⟩

/-! ## The header (R180) -/

theorem imgByte_toList {n : Nat} (v : Vector Byte n) (k : Nat) (h : k < n) : imgByte v.toList k = v[k] := by
  simp [imgByte, List.getD_eq_getElem?_getD, h]

theorem headerBlank_iff (h : Vector Byte 11) : headerBlank h.toList = true ↔
    (h[0] = 0xFF ∧ h[1] = 0xFF) ∨ (h[0] = 0x00 ∧ h[1] = 0x00) := by
  simp [headerBlank, imgByte_toList]

theorem headerFormat_iff (h : Vector Byte 11) : headerFormat h.toList = true ↔
    h[0] = 0x4F ∧ h[1] = 0x4A ∧ h[2] = 0x01 ∧ h[3] = 0x02 ∧ h[4] = 0x01 := by
  simp [headerFormat, imgByte_toList, and_assoc]

theorem headerFault_eq_none_iff (h : Vector Byte 11) : headerFault h.toList = none ↔
    h[0] = 0x4F ∧ h[1] = 0x4A ∧ h[2] = 0x01 ∧ h[3] = 0x02 ∧ h[4] = 0x01 := by
  rw [← headerFormat_iff]
  unfold headerFault
  split
  · next hb =>
    refine iff_of_false (by simp) fun hf => ?_
    have h0 := ((headerFormat_iff h).1 hf).1
    rcases (headerBlank_iff h).1 hb with ⟨hb, _⟩ | ⟨hb, _⟩ <;> rw [h0] at hb <;> revert hb <;> decide
  · split
    · next hf => simp [hf]
    · next hf => simp [hf]

/-- HEADER_CHECK in a pass that has received nothing yet. -/
theorem exec_headerCheck {s : State} {d : Nat} (hp : s.loader.phase = .reading) (hport : s.loader.port = .selected)
    (hbuf : s.loader.buffer = []) (hd : s.loader.timer = some d) (h : Vector Byte 11) :
    exec (.headerCheck h) s = .next ((s.setTime (max s.time d)).takeHeader h.toList) := by
  have hexec : exec (.headerCheck h) s = .next ((s.reach s.loader.timer).takeHeader h.toList) :=
    if_pos ⟨by simp [Loader.inPass, hp, hport], hbuf⟩
  rw [hexec, reach_eq hd]

theorem passFault_of_lt {s : State} {r : BitVec 3} (h : s.loader.passCount < 3) :
    s.passFault r = s.setLoader { s.loader with phase := .reading, port := .deselected, timer := some (s.time + 10) } :=
  if_pos h

theorem passFault_of_ge {s : State} {r : BitVec 3} (h : 3 ≤ s.loader.passCount) : s.passFault r = s.loadFailed r 0 0 :=
  if_neg (by omega)

/-- The loader has the header in its buffer, and in the running CRC. -/
def State.withHeader (s : State) (h : List Byte) : State :=
  s.setLoader { s.loader with buffer := h, crc := crcBytes s.loader.crc h }

theorem takeHeader_of_fault {s : State} {h : List Byte} {r : BitVec 3} (hr : headerFault h = some r) :
    s.takeHeader h = (s.withHeader h).passFault r := by
  simp only [State.takeHeader, hr]
  rfl

/-- The state after the loader reaches FAILED, block by block (R184). -/
theorem loadFailed_eq (s : State) (reason table : BitVec 3) (index : BitVec 5) :
    s.loadFailed reason table index =
      { s with
        loader := { s.loader with
          phase := .failed, reason := reason, failTable := table, failIndex := index, signature := some 0, timer := none,
          port := .deselected }
        roster := upd s.roster (addrIdx s.address) { look s.roster (addrIdx s.address) with signature := some 0 }
        faults := { s.faults with configFailed := true, withdrawn := false }
        bus := { s.bus with
          station := .listening, standing := 15, holdOff := some (s.time + 2 * s.bus.beaconUs), phase := .waitingIdle }
        outs := s.outs.map (fun l => { l with forcedSafe := false })
        beacon := { s.beacon with timer := some (s.time + s.bus.beaconUs) } } := by
  unfold State.loadFailed
  rw [goOnline_eq]
  simp only [State.setLoader, State.latch, State.setFaults, FaultSet.put]

/-- Settles O5: by the fault of the header and the count of passes. -/
theorem headerCheckJudgesTheHeader : Obligations.HeaderCheckJudgesTheHeader := by
  intro s h d hp hport hbuf hd hdef
  have hexec := exec_headerCheck hp hport hbuf hd h
  refine ⟨fun hc => ?_, fun hc hn => ?_, fun reason hc hn hr => ?_⟩
  · rw [hexec]
    simp only [State.takeHeader, (headerFault_eq_none_iff h).2 hc]
    rfl
  · obtain ⟨r, hr⟩ := Option.ne_none_iff_exists'.1 (mt (headerFault_eq_none_iff h).1 hc)
    rw [hexec, takeHeader_of_fault hr, passFault_of_lt (s := (s.setTime (max s.time d)).withHeader h.toList) hn]
    simp only [State.withHeader, State.setTime, State.setLoader, hp]
  · have hfault : headerFault h.toList = some reason := by
      unfold headerFault
      rcases hr with ⟨hb, rfl⟩ | ⟨hb, rfl⟩
      · rw [if_pos ((headerBlank_iff h).2 hb)]
      · rw [if_neg (mt (headerBlank_iff h).1 hb), if_neg (mt (headerFormat_iff h).1 hc)]
    obtain ⟨hbeacon, hretry, hsafe, hcommon, hmaint⟩ := hdef (by rw [hp]; simp)
    have hus : s.bus.beaconUs = 100000 := by
      rw [BusInterface.beaconUs, hbeacon]
      rfl
    rw [hexec, takeHeader_of_fault hfault, passFault_of_ge (s := (s.setTime (max s.time d)).withHeader h.toList) hn, loadFailed_eq]
    refine ⟨_, rfl, ?_, ?_, hbeacon, hretry, hsafe, hcommon, hmaint⟩
    · simp only [State.withHeader, State.setTime, State.setLoader, hus]
    · simp [State.flt, FaultSet.nonEmpty]

/-! ## The end of a pass (R180) -/

/-- READ_PASS_END in a pass that has received the header. -/
theorem exec_readPassEnd {s : State} {d : Nat} (hp : s.loader.phase = .reading) (hport : s.loader.port = .selected)
    (hbuf : s.loader.buffer.length = 11) (hd : s.loader.timer = some d) (body : Vector Byte 502) :
    exec (.readPassEnd body) s = .next ((s.setTime (max s.time d)).takeBody body.toList) := by
  have hexec : exec (.readPassEnd body) s = .next ((s.reach s.loader.timer).takeBody body.toList) :=
    if_pos ⟨by simp [Loader.inPass, hp, hport], hbuf⟩
  rw [hexec, reach_eq hd]

/-- The loader in CHECKING, with the whole image (R179). -/
def State.withBody (s : State) (body : List Byte) : State :=
  s.setLoader { s.loader with
    phase := .checking, port := .deselected, timer := none, buffer := s.loader.buffer ++ body
    crc := crcBytes s.loader.crc (body.take 500) }

theorem takeBody_eq (s : State) (body : List Byte) :
    s.takeBody body = (s.withBody body).check (s.loader.buffer ++ body) := rfl

theorem takeBody_of_wrong_crc {s : State} {body : List Byte}
    (h : crcBytes s.loader.crc (body.take 500) ≠ imageCrc (s.loader.buffer ++ body)) :
    s.takeBody body = (s.withBody body).passFault 2 := by
  rw [takeBody_eq]
  exact if_pos h

theorem takeBody_of_refused {s : State} {body : List Byte} {table : BitVec 3} {index : BitVec 5}
    (h : crcBytes s.loader.crc (body.take 500) = imageCrc (s.loader.buffer ++ body))
    (hv : validate (s.loader.buffer ++ body) = some (table, index)) :
    s.takeBody body = (s.withBody body).loadFailed 4 table index := by
  have hc : (s.withBody body).loader.crc = imageCrc (s.loader.buffer ++ body) := h
  rw [takeBody_eq]
  simp only [State.check, hc, ne_eq, not_true_eq_false, if_false, hv]

theorem takeBody_of_valid {s : State} {body : List Byte}
    (h : crcBytes s.loader.crc (body.take 500) = imageCrc (s.loader.buffer ++ body))
    (hv : validate (s.loader.buffer ++ body) = none) :
    s.takeBody body = (s.withBody body).loadReady (s.loader.buffer ++ body) := by
  have hc : (s.withBody body).loader.crc = imageCrc (s.loader.buffer ++ body) := h
  rw [takeBody_eq]
  simp only [State.check, hc, ne_eq, not_true_eq_false, if_false, hv]

/-- The first part of O6: how a pass ends whose image is refused. -/
theorem refused_image_retries_or_fails (s : State) (body : Vector Byte 502) (d : Nat)
    (hp : s.loader.phase = .reading) (hport : s.loader.port = .selected) (hbuf : s.loader.buffer.length = 11)
    (hd : s.loader.timer = some d) :
    let t := max s.time d
    let img := s.loader.buffer ++ body.toList
    let crc := crcBytes s.loader.crc (body.toList.take 500)
    (crc ≠ imageCrc img → s.loader.passCount < 3 →
      exec (.readPassEnd body) s =
        .next { s with
          time := t
          loader := { s.loader with phase := .reading, port := .deselected, buffer := img, crc := crc,
                                    timer := some (t + 10) } }) ∧
    (crc ≠ imageCrc img → 3 ≤ s.loader.passCount → ∃ u : State,
      exec (.readPassEnd body) s = .next u ∧ u.loader.phase = .failed ∧ u.loader.reason = 2 ∧
      u.loader.signature = some 0 ∧ u.faults.configFailed = true ∧ u.bus.station = .listening ∧
      u.sources = s.sources ∧ u.subs = s.subs ∧ u.gens = s.gens ∧ u.counters = s.counters) ∧
    (∀ (table : BitVec 3) (index : BitVec 5), crc = imageCrc img → validate img = some (table, index) → ∃ u : State,
      exec (.readPassEnd body) s = .next u ∧ u.loader.phase = .failed ∧ u.loader.reason = 4 ∧
      u.loader.failTable = table ∧ u.loader.failIndex = index ∧ u.loader.signature = some 0 ∧
      u.faults.configFailed = true ∧ u.bus.station = .listening ∧ u.sources = s.sources ∧ u.subs = s.subs ∧
      u.gens = s.gens ∧ u.counters = s.counters ∧ u.groups = s.groups) := by
  dsimp only
  have hexec := exec_readPassEnd hp hport hbuf hd body
  refine ⟨fun hc hn => ?_, fun hc hn => ?_, fun table index hc hv => ?_⟩
  · rw [hexec, takeBody_of_wrong_crc (s := s.setTime (max s.time d)) hc,
      passFault_of_lt (s := (s.setTime (max s.time d)).withBody body.toList) hn]
    simp only [State.withBody, State.setTime, State.setLoader]
  · rw [hexec, takeBody_of_wrong_crc (s := s.setTime (max s.time d)) hc,
      passFault_of_ge (s := (s.setTime (max s.time d)).withBody body.toList) hn, loadFailed_eq]
    exact ⟨_, rfl, rfl, rfl, rfl, rfl, rfl, rfl, rfl, rfl, rfl⟩
  · rw [hexec, takeBody_of_refused (s := s.setTime (max s.time d)) hc hv, loadFailed_eq]
    exact ⟨_, rfl, rfl, rfl, rfl, rfl, rfl, rfl, rfl, rfl, rfl, rfl, rfl, rfl⟩

end Sys2Proof.Machine
end

section
/-! PROOF. Validation (R182): each check of the model in numbers of bytes, and the first failing entry. -/

namespace Sys2Proof.Machine

/-! ## Fields of a byte as numbers -/

theorem toNat_extractLsb'_byte (b : Byte) (s n : Nat) : (b.extractLsb' s n).toNat = b.toNat / 2 ^ s % 2 ^ n := by
  rw [BitVec.extractLsb'_toNat, Nat.shiftRight_eq_div_pow]

theorem getLsbD_seven : ∀ b : Byte, b.getLsbD 7 = decide (128 ≤ b.toNat) := by decide

theorem byte_eq_zero_iff (b : Byte) : b = 0 ↔ b.toNat = 0 := by
  rw [← BitVec.toNat_inj]
  rfl

theorem decodeMode_isHold : ∀ c : BitVec 3, (decodeMode c).isHold = true ↔ c.toNat = 3 ∨ c.toNat = 4 := by decide

/-- A mode that no code below 5 names. -/
def Mode.isReserved : Mode → Bool
  | .reserved _ => true
  | _ => false

theorem decodeMode_isReserved : ∀ c : BitVec 3, (decodeMode c).isReserved = true ↔ 5 ≤ c.toNat := by decide

theorem decodeOrigin_eq_none : ∀ c : BitVec 5, decodeOrigin c = .none ↔ 28 ≤ c.toNat := by decide

theorem decodeOrigin_eq_counter : ∀ (c : BitVec 5) (k : Fin 4), decodeOrigin c = .counter k ↔ c.toNat = 24 + k.val := by
  decide

/-- The bytes of the image as numbers. -/
def byteNat (img : List Byte) (k : Nat) : Nat := (imgByte img k).toNat

theorem byteNat_lt (img : List Byte) (k : Nat) : byteNat img k < 256 := (imgByte img k).isLt

/-! ## The checks, part by part -/

theorem imageSource_mode (img : List Byte) (i : Fin 16) :
    (imageSource img i).mode = decodeMode ((imgByte img (11 + 8 * i.val)).extractLsb' 5 3) := rfl
theorem imageSource_origin (img : List Byte) (i : Fin 16) :
    (imageSource img i).origin = decodeOrigin ((imgByte img (11 + 8 * i.val)).extractLsb' 0 5) := rfl
theorem imageSource_channel (img : List Byte) (i : Fin 16) :
    (imageSource img i).channel = imgByte img (12 + 8 * i.val) := by
  rw [show 12 + 8 * i.val = 11 + 8 * i.val + 1 by omega]
  rfl
theorem imageSource_quorum (img : List Byte) (i : Fin 16) :
    (imageSource img i).quorum = (imgByte img (13 + 8 * i.val)).extractLsb' 0 3 := by
  rw [show 13 + 8 * i.val = 11 + 8 * i.val + 2 by omega]
  rfl
theorem imageSource_releasers (img : List Byte) (i : Fin 16) :
    (imageSource img i).releasers = Vector.ofFn (fun r : Fin 4 => decodeReleaser (imgByte img (15 + 8 * i.val + r.val))) := by
  refine congrArg Vector.ofFn (funext fun r => ?_)
  rw [show 15 + 8 * i.val + r.val = 11 + 8 * i.val + (4 + r.val) by omega]
  rfl

theorem imageSource_mode_code (img : List Byte) (i : Fin 16) :
    ((imgByte img (11 + 8 * i.val)).extractLsb' 5 3).toNat = byteNat img (11 + 8 * i.val) / 32 := by
  have h := byteNat_lt img (11 + 8 * i.val)
  rw [toNat_extractLsb'_byte]
  unfold byteNat at *
  omega

theorem imageSource_origin_code (img : List Byte) (i : Fin 16) :
    ((imgByte img (11 + 8 * i.val)).extractLsb' 0 5).toNat = byteNat img (11 + 8 * i.val) % 32 := by
  rw [toNat_extractLsb'_byte]
  unfold byteNat
  omega

theorem imageHold_iff (img : List Byte) (i : Fin 16) : imageHold img i = true ↔ HoldInUse (byteNat img) i.val := by
  unfold imageHold SourceEntry.isHold HoldInUse
  rw [Bool.and_eq_true, bne_iff_ne, ne_eq, imageSource_mode, imageSource_origin, decodeMode_isHold,
    decodeOrigin_eq_none, imageSource_mode_code, imageSource_origin_code, Nat.not_le]

theorem channel_eq_zero_iff (img : List Byte) (i : Fin 16) :
    (imageSource img i).channel = 0 ↔ byteNat img (12 + 8 * i.val) = 0 := by
  rw [imageSource_channel, byte_eq_zero_iff]
  rfl

theorem channel_eq_iff (img : List Byte) (i j : Fin 16) : (imageSource img j).channel = (imageSource img i).channel ↔
    byteNat img (12 + 8 * j.val) = byteNat img (12 + 8 * i.val) := by
  rw [imageSource_channel, imageSource_channel, ← BitVec.toNat_inj]
  rfl

theorem quorum_toNat (img : List Byte) (i : Fin 16) :
    (imageSource img i).quorum.toNat = byteNat img (13 + 8 * i.val) % 8 := by
  rw [imageSource_quorum, toNat_extractLsb'_byte]
  unfold byteNat
  omega

theorem releasers_none_iff (img : List Byte) (i : Fin 16) :
    (imageSource img i).releasers.toList.all (· = none) = true ↔ ∀ r < 4, byteNat img (15 + 8 * i.val + r) < 128 := by
  have hnone : ∀ b : Byte, decodeReleaser b = none ↔ b.toNat < 128 := fun b => by
    unfold decodeReleaser
    rw [getLsbD_seven]
    split
    · next h => simpa using h
    · next h => simpa using h
  rw [imageSource_releasers, List.all_eq_true]
  simp only [Vector.toList_ofFn, List.mem_ofFn, decide_eq_true_eq, forall_exists_index, forall_apply_eq_imp_iff, hnone]
  exact ⟨fun h r hr => h ⟨r, hr⟩, fun h r => h r.val r.isLt⟩

/-- The origin of entry `i` is a counter that does not stick (R182). -/
def counterWraps (img : List Byte) (i : Fin 16) : Bool :=
  match (imageSource img i).origin with
  | .counter c => !(imageCounter img c).stick
  | _ => false

theorem counterWraps_iff (img : List Byte) (i : Fin 16) : counterWraps img i = true ↔
    24 ≤ byteNat img (11 + 8 * i.val) % 32 ∧ byteNat img (11 + 8 * i.val) % 32 < 28 ∧
      byteNat img (475 + 3 * (byteNat img (11 + 8 * i.val) % 32 - 24) + 2) < 128 := by
  have hcode := imageSource_origin_code img i
  unfold counterWraps
  split
  · next c hc =>
    rw [imageSource_origin, decodeOrigin_eq_counter, hcode] at hc
    have hstick : (imageCounter img c).stick = (imgByte img (475 + 3 * c.val + 2)).getLsbD 7 := rfl
    rw [hc, hstick, getLsbD_seven, Nat.add_sub_cancel_left, Bool.not_eq_true', decide_eq_false_iff_not, Nat.not_le]
    have hlt := c.isLt
    exact ⟨fun h => ⟨by omega, by omega, h⟩, fun h => h.2.2⟩
  · next hc =>
    refine iff_of_false (by simp) fun ⟨h1, h2, _⟩ => ?_
    refine hc ⟨byteNat img (11 + 8 * i.val) % 32 - 24, by omega⟩ ?_
    rw [imageSource_origin, decodeOrigin_eq_counter, hcode]
    dsimp only
    omega

/-- An entry before `i` is a hold-mode entry of the same channel (R182). -/
def channelTaken (img : List Byte) (i : Fin 16) : Bool :=
  (indices 16).any (fun j => j.val < i.val && imageHold img j && (imageSource img j).channel = (imageSource img i).channel)

theorem channelTaken_iff (img : List Byte) (i : Fin 16) : channelTaken img i = true ↔
    ∃ j < i.val, HoldInUse (byteNat img) j ∧ byteNat img (12 + 8 * j) = byteNat img (12 + 8 * i.val) := by
  simp only [channelTaken, List.any_eq_true, mem_indices, true_and, Bool.and_eq_true, decide_eq_true_eq, imageHold_iff,
    channel_eq_iff, and_assoc]
  exact ⟨fun ⟨j, h⟩ => ⟨j.val, h⟩, fun ⟨j, h⟩ => ⟨⟨j, by have := i.isLt; omega⟩, h⟩⟩

theorem sourceRefused_eq (img : List Byte) (i : Fin 16) : sourceRefused img i =
    if 28 ≤ ((imgByte img (11 + 8 * i.val)).extractLsb' 0 5).toNat &&
      ((imgByte img (11 + 8 * i.val)).extractLsb' 0 5).toNat ≤ 30 then true
    else if (imageSource img i).origin = .none then false
    else (imageSource img i).mode.isReserved || (imageSource img i).channel = 0 ||
      (imageHold img i &&
        (5 ≤ (imageSource img i).quorum.toNat ||
          ((imageSource img i).quorum = 0 && (imageSource img i).releasers.toList.all (· = none)) ||
          counterWraps img i || channelTaken img i)) := rfl

theorem sourceRefused_iff (img : List Byte) (i : Fin 16) :
    sourceRefused img i = true ↔ BreaksSource (byteNat img) i.val := by
  have hcode := imageSource_origin_code img i
  have horigin : (imageSource img i).origin = .none ↔ 28 ≤ byteNat img (11 + 8 * i.val) % 32 := by
    rw [imageSource_origin, decodeOrigin_eq_none, hcode]
  have hmode : (imageSource img i).mode.isReserved = true ↔ 5 ≤ byteNat img (11 + 8 * i.val) / 32 := by
    rw [imageSource_mode, decodeMode_isReserved, imageSource_mode_code]
  have hquorum0 : (imageSource img i).quorum = 0 ↔ byteNat img (13 + 8 * i.val) % 8 = 0 := by
    rw [← quorum_toNat, ← BitVec.toNat_inj]
    rfl
  have hlt : byteNat img (11 + 8 * i.val) % 32 < 32 := Nat.mod_lt _ (by decide)
  rw [sourceRefused_eq, hcode]
  unfold BreaksSource
  dsimp only
  by_cases h28 : 28 ≤ byteNat img (11 + 8 * i.val) % 32
  · have hnot : ¬HoldInUse (byteNat img) i.val := fun h => by
      have := h.2
      omega
    by_cases h30 : byteNat img (11 + 8 * i.val) % 32 ≤ 30
    · simp [h28, h30]
    · have h31 : byteNat img (11 + 8 * i.val) % 32 = 31 := by omega
      simp [h31, horigin, hnot]
  · have hor : ¬(imageSource img i).origin = .none := mt horigin.1 h28
    have h31 : byteNat img (11 + 8 * i.val) % 32 ≠ 31 := by omega
    have hlt28 : byteNat img (11 + 8 * i.val) % 32 < 28 := by omega
    simp only [h28, decide_false, Bool.false_and, Bool.false_eq_true, if_false, hor, Bool.or_eq_true, Bool.and_eq_true,
      hmode, decide_eq_true_eq, channel_eq_zero_iff, imageHold_iff, quorum_toNat, hquorum0, releasers_none_iff,
      counterWraps_iff, channelTaken_iff, hlt28, false_and, false_or, h31, ne_eq, not_false_eq_true, true_and, or_assoc]

theorem decodeKinds_eq_reserved : ∀ c : BitVec 2, decodeKinds c = .reserved ↔ c.toNat = 3 := by decide
theorem decodeRelease_eq_reserved : ∀ c : BitVec 2, decodeRelease c = .reserved ↔ c.toNat = 3 := by decide

/-- A group that no code below 5 names. -/
def SubGroup.isReserved : SubGroup → Bool
  | .reserved _ => true
  | _ => false

theorem decodeGroup_isReserved : ∀ c : BitVec 3, (decodeGroup c).isReserved = true ↔ 5 ≤ c.toNat := by decide

theorem actionRefused_iff : ∀ b : Byte, actionRefused (decodeAction b) = true ↔ BadAction b.toNat := by
  unfold BadAction
  decide

theorem subRefused_eq (img : List Byte) (k : Fin 32) : subRefused img k =
    if imgByte img (139 + 6 * k.val) = 0 then false
    else decide (decodeKinds ((imgByte img (139 + 6 * k.val + 1)).extractLsb' 0 2) = .reserved) ||
      decide (decodeRelease ((imgByte img (139 + 6 * k.val + 2)).extractLsb' 3 2) = .reserved) ||
      (decodeGroup ((imgByte img (139 + 6 * k.val + 2)).extractLsb' 5 3)).isReserved ||
      actionRefused (decodeAction (imgByte img (139 + 6 * k.val + 3))) ||
      actionRefused (decodeAction (imgByte img (139 + 6 * k.val + 4))) := rfl

theorem subRefused_iff (img : List Byte) (k : Fin 32) : subRefused img k = true ↔ BreaksSub (byteNat img) k.val := by
  have h1 : 140 + 6 * k.val = 139 + 6 * k.val + 1 := by omega
  have h2 : 141 + 6 * k.val = 139 + 6 * k.val + 2 := by omega
  have h3 : 142 + 6 * k.val = 139 + 6 * k.val + 3 := by omega
  have h4 : 143 + 6 * k.val = 139 + 6 * k.val + 4 := by omega
  have hkinds : ∀ n, ((imgByte img n).extractLsb' 0 2).toNat = byteNat img n % 4 := fun n => by
    rw [toNat_extractLsb'_byte, pow_zero, Nat.div_one]
    rfl
  have hpolicy : ∀ n, ((imgByte img n).extractLsb' 3 2).toNat = byteNat img n / 8 % 4 := fun n => by
    rw [toNat_extractLsb'_byte]
    rfl
  have hgroup : ∀ n, ((imgByte img n).extractLsb' 5 3).toNat = byteNat img n / 32 := fun n => by
    have h := byteNat_lt img n
    rw [toNat_extractLsb'_byte]
    unfold byteNat at *
    omega
  rw [subRefused_eq]
  unfold BreaksSub
  rw [h1, h2, h3, h4]
  by_cases h0 : imgByte img (139 + 6 * k.val) = 0
  · have h0' : byteNat img (139 + 6 * k.val) = 0 := (byte_eq_zero_iff _).1 h0
    simp [h0, h0']
  · have h0' : byteNat img (139 + 6 * k.val) ≠ 0 := mt (byte_eq_zero_iff _).2 h0
    simp only [h0, if_false, Bool.or_eq_true, decide_eq_true_eq, decodeKinds_eq_reserved, decodeRelease_eq_reserved,
      decodeGroup_isReserved, actionRefused_iff, hkinds, hpolicy, hgroup, h0', ne_eq, not_false_eq_true, true_and]
    unfold byteNat
    tauto

theorem imgWord_toNat (img : List Byte) (n : Nat) : (imgWord img n).toNat = 256 * byteNat img n + byteNat img (n + 1) := by
  have h := byteNat_lt img (n + 1)
  unfold imgWord byteNat at *
  rw [BitVec.toNat_append, Nat.shiftLeft_eq, ← Nat.shiftLeft_eq, ← Nat.shiftLeft_add_eq_or_of_lt h, Nat.shiftLeft_eq]
  omega

theorem imgWord_eq_zero_iff (img : List Byte) (n : Nat) :
    imgWord img n = 0 ↔ 256 * byteNat img n + byteNat img (n + 1) = 0 := by
  rw [← imgWord_toNat, ← BitVec.toNat_inj]
  rfl

theorem profileRefused_iff (img : List Byte) (p : Fin 16) : profileRefused img p = true ↔
    256 * byteNat img (333 + 8 * p.val) + byteNat img (334 + 8 * p.val) = 0 ∨
      256 * byteNat img (335 + 8 * p.val) + byteNat img (336 + 8 * p.val) = 0 ∨ 3 < byteNat img (338 + 8 * p.val) := by
  have hw : (imageProfile img p).width = imgWord img (331 + 8 * p.val + 2) := rfl
  have hg : (imageProfile img p).gap = imgWord img (331 + 8 * p.val + 4) := rfl
  have hu : (imgByte img (profileOffset p.val + 7)).toNat = byteNat img (331 + 8 * p.val + 7) := rfl
  rw [profileRefused, hw, hg, hu, Bool.or_eq_true, Bool.or_eq_true, decide_eq_true_eq, decide_eq_true_eq, decide_eq_true_eq,
    imgWord_eq_zero_iff, imgWord_eq_zero_iff, or_assoc, show 333 + 8 * p.val = 331 + 8 * p.val + 2 by omega,
    show 334 + 8 * p.val = 331 + 8 * p.val + 2 + 1 by omega, show 335 + 8 * p.val = 331 + 8 * p.val + 4 by omega,
    show 336 + 8 * p.val = 331 + 8 * p.val + 4 + 1 by omega, show 338 + 8 * p.val = 331 + 8 * p.val + 7 by omega]

theorem genRefused_iff (img : List Byte) (g : Fin 8) :
    genRefused img g = true ↔ byteNat img (460 + 2 * g.val) / 32 % 4 = 3 := by
  have hb : genRefused img g = decide ((imgByte img (459 + 2 * g.val + 1)).extractLsb' 5 2 = 3) := rfl
  rw [hb, decide_eq_true_eq, ← BitVec.toNat_inj, toNat_extractLsb'_byte, show 460 + 2 * g.val = 459 + 2 * g.val + 1 by omega]
  rfl

theorem counterRefused_iff (img : List Byte) (c : Fin 4) : counterRefused img c = true ↔
    256 * byteNat img (475 + 3 * c.val) + byteNat img (476 + 3 * c.val) = 0 := by
  have hb : counterRefused img c = decide (imgWord img (475 + 3 * c.val) = 0) := rfl
  rw [hb, decide_eq_true_eq, imgWord_eq_zero_iff, show 476 + 3 * c.val = 475 + 3 * c.val + 1 by omega]

end Sys2Proof.Machine
end

section
/-! PROOF. Validation (R182), continued: the first failing entry in the order of the image. -/

namespace Sys2Proof.Machine

/-! ## The parts of the image -/

theorem breaks_source (b : Nat → Nat) (n : Nat) : Breaks b 0 n ↔ n < 16 ∧ BreaksSource b n := by simp [Breaks]
theorem breaks_sub (b : Nat → Nat) (n : Nat) : Breaks b 1 n ↔ n < 32 ∧ BreaksSub b n := by simp [Breaks]
theorem breaks_profile (b : Nat → Nat) (n : Nat) : Breaks b 2 n ↔ n < 16 ∧
    (256 * b (333 + 8 * n) + b (334 + 8 * n) = 0 ∨ 256 * b (335 + 8 * n) + b (336 + 8 * n) = 0 ∨
      3 < b (338 + 8 * n)) := by simp [Breaks]
theorem breaks_gen (b : Nat → Nat) (n : Nat) : Breaks b 3 n ↔ n < 8 ∧ b (460 + 2 * n) / 32 % 4 = 3 := by simp [Breaks]
theorem breaks_counter (b : Nat → Nat) (n : Nat) :
    Breaks b 4 n ↔ n < 4 ∧ 256 * b (475 + 3 * n) + b (476 + 3 * n) = 0 := by simp [Breaks]
theorem breaks_header (b : Nat → Nat) (n : Nat) : Breaks b 7 n ↔
    (n = 5 ∧ (b 5 = 0 ∨ 100 < b 5)) ∨ (n = 6 ∧ (b 6 = 0 ∨ 15 < b 6)) ∨ (n = 7 ∧ b 7 = 0) ∨
      (n = 8 ∧ 0x20 ≤ b 8 ∧ b 8 ≤ 0xFE) := by simp [Breaks]

theorem table_of_breaks {b : Nat → Nat} {t n : Nat} (h : Breaks b t n) : t = 7 ∨ t < 5 := by
  unfold Breaks at h
  omega

/-- The first place of a part at which a check breaks. -/
def FirstAt (B : Nat → Prop) (n : Nat) : Prop := B n ∧ ∀ m < n, ¬B m

theorem find?_indices {n : Nat} (p : Fin n → Bool) (i : Fin n) :
    (indices n).find? p = some i ↔ p i = true ∧ ∀ j < i, p j = false := by
  rw [List.find?_eq_some_iff_getElem]
  simp only [indices, List.getElem_finRange, List.length_finRange, Bool.not_eq_true', Fin.ext_iff, Fin.val_cast]
  refine and_congr_right fun _ => ⟨?_, fun h => ⟨i.val, i.isLt, rfl, fun j hj => h _ hj⟩⟩
  rintro ⟨k, hk, hki, h⟩ j hj
  exact h j.val (by rw [hki]; exact hj)

/-- A part of the image, with its table code: what its first failing entry says of its checks. -/
theorem firstRefused_spec {b : Nat → Nat} {n : Nat} {t : BitVec 3} {bad : Fin n → Bool} (hn : n ≤ 32)
    (h : ∀ m, Breaks b t.toNat m ↔ ∃ hm : m < n, bad ⟨m, hm⟩ = true) :
    (firstRefused t bad = none → ∀ m, ¬Breaks b t.toNat m) ∧
      ∀ t' i, firstRefused t bad = some (t', i) → t' = t ∧ FirstAt (Breaks b t.toNat) i.toNat := by
  refine ⟨fun hnone m hm => ?_, fun t' i hsome => ?_⟩
  · obtain ⟨hlt, hbad⟩ := (h m).1 hm
    rw [(firstRefused_eq_none_iff t bad).1 hnone] at hbad
    cases hbad
  · obtain ⟨j, hj, hji⟩ := Option.map_eq_some_iff.1 hsome
    obtain ⟨rfl, rfl⟩ := Prod.mk.inj hji
    obtain ⟨hbad, hbefore⟩ := (find?_indices bad j).1 hj
    have hval : (BitVec.ofNat 5 j.val).toNat = j.val := by
      rw [BitVec.toNat_ofNat]
      exact Nat.mod_eq_of_lt (by have := j.isLt; omega)
    refine ⟨rfl, ?_, fun m hm hb => ?_⟩
    · rw [hval, h]
      exact ⟨j.isLt, hbad⟩
    · rw [hval] at hm
      obtain ⟨hlt, hbad⟩ := (h m).1 hb
      rw [hbefore ⟨m, hlt⟩ hm] at hbad
      cases hbad

theorem refused_iff {n : Nat} {bad : Fin n → Bool} {B : Nat → Prop} (h : ∀ i : Fin n, bad i = true ↔ B i.val) (m : Nat) :
    (m < n ∧ B m) ↔ ∃ hm : m < n, bad ⟨m, hm⟩ = true :=
  ⟨fun ⟨hm, hb⟩ => ⟨hm, (h ⟨m, hm⟩).2 hb⟩, fun ⟨hm, hb⟩ => ⟨hm, (h ⟨m, hm⟩).1 hb⟩⟩

theorem checkHeader_spec (img : List Byte) :
    (checkHeader img = none → ∀ m, ¬Breaks (byteNat img) 7 m) ∧
      ∀ i, checkHeader img = some i → FirstAt (Breaks (byteNat img) 7) i.toNat := by
  have h0 : ∀ k, imgByte img k = 0 ↔ byteNat img k = 0 := fun k => byte_eq_zero_iff _
  have hff : imgByte img 8 = 0xFF ↔ byteNat img 8 = 255 := by
    rw [← BitVec.toNat_inj]
    rfl
  have hlt := byteNat_lt img 8
  simp only [FirstAt, breaks_header]
  unfold checkHeader
  simp only [Bool.or_eq_true, Bool.and_eq_true, decide_eq_true_eq, bne_iff_ne, ne_eq, h0, hff]
  simp only [← byteNat.eq_1]
  split_ifs with h5 h6 h7 h8
  · exact ⟨by simp, fun i hi => by cases hi; exact ⟨.inl ⟨rfl, h5⟩, fun m hm => by change m < 5 at hm; omega⟩⟩
  · exact ⟨by simp, fun i hi => by cases hi; exact ⟨.inr (.inl ⟨rfl, h6⟩), fun m hm => by change m < 6 at hm; omega⟩⟩
  · exact ⟨by simp, fun i hi => by
      cases hi; exact ⟨.inr (.inr (.inl ⟨rfl, h7⟩)), fun m hm => by change m < 7 at hm; omega⟩⟩
  · exact ⟨by simp, fun i hi => by
      cases hi; exact ⟨.inr (.inr (.inr ⟨rfl, by omega⟩)), fun m hm => by change m < 8 at hm; omega⟩⟩
  · exact ⟨fun _ m => by omega, by simp⟩

/-! ## The order of the parts -/

/-- The first failing entry of the parts `ts`, taken in their order. -/
def Judges (b : Nat → Nat) (ts : List Nat) (r : Option (BitVec 3 × BitVec 5)) : Prop :=
  (r = none → ∀ t ∈ ts, ∀ n, ¬Breaks b t n) ∧
    ∀ t i, r = some (t, i) → ∃ before after, ts = before ++ t.toNat :: after ∧ FirstAt (Breaks b t.toNat) i.toNat ∧
      ∀ t' ∈ before, ∀ n, ¬Breaks b t' n

theorem Judges.one {b : Nat → Nat} {t : BitVec 3} {r : Option (BitVec 3 × BitVec 5)}
    (h : (r = none → ∀ m, ¬Breaks b t.toNat m) ∧ ∀ t' i, r = some (t', i) → t' = t ∧ FirstAt (Breaks b t.toNat) i.toNat) :
    Judges b [t.toNat] r := by
  refine ⟨fun hr t' ht' => ?_, fun t' i hr => ?_⟩
  · rw [List.mem_singleton.1 ht']
    exact h.1 hr
  · obtain ⟨rfl, hfirst⟩ := h.2 t' i hr
    exact ⟨[], [], rfl, hfirst, by simp⟩

theorem Judges.orElse {b : Nat → Nat} {t : Nat} {ts : List Nat} {r q : Option (BitVec 3 × BitVec 5)} (hr : Judges b [t] r)
    (hq : Judges b ts q) : Judges b (t :: ts) (r <|> q) := by
  cases r with
  | some x =>
    refine ⟨fun h => (by cases h), fun t' i h => ?_⟩
    obtain ⟨before, after, hts, hfirst, hclear⟩ := hr.2 t' i h
    exact ⟨before, after ++ ts, by rw [← List.cons_append, ← List.append_assoc, ← hts]; rfl, hfirst, hclear⟩
  | none =>
    have hone := hr.1 rfl t (by simp)
    refine ⟨fun h t' ht' => ?_, fun t' i h => ?_⟩
    · rcases List.mem_cons.1 ht' with rfl | ht'
      · exact hone
      · exact hq.1 h t' ht'
    · obtain ⟨before, after, hts, hfirst, hclear⟩ := hq.2 t' i h
      refine ⟨t :: before, after, by rw [hts]; rfl, hfirst, fun x hx => ?_⟩
      rcases List.mem_cons.1 hx with rfl | hx
      · exact hone
      · exact hclear x hx

theorem validate_eq_orElse (img : List Byte) : validate img =
    ((checkHeader img).map (fun i => ((7 : BitVec 3), i)) <|> firstRefused 0 (sourceRefused img) <|>
      firstRefused 1 (subRefused img) <|> firstRefused 2 (profileRefused img) <|> firstRefused 3 (genRefused img) <|>
      firstRefused 4 (counterRefused img)) := by
  unfold validate
  cases checkHeader img <;> rfl

theorem validate_judges (img : List Byte) : Judges (byteNat img) [7, 0, 1, 2, 3, 4] (validate img) := by
  rw [validate_eq_orElse]
  refine Judges.orElse (.one (t := 7) ?_) (.orElse (.one (t := 0) ?_) (.orElse (.one (t := 1) ?_)
    (.orElse (.one (t := 2) ?_) (.orElse (.one (t := 3) ?_) (.one (t := 4) ?_)))))
  · obtain ⟨hnone, hsome⟩ := checkHeader_spec img
    refine ⟨fun h => hnone (by simpa using h), fun t i h => ?_⟩
    obtain ⟨j, hj, hji⟩ := Option.map_eq_some_iff.1 h
    obtain ⟨rfl, rfl⟩ := Prod.mk.inj hji
    exact ⟨rfl, hsome _ hj⟩
  · exact firstRefused_spec (by decide) fun m => (breaks_source _ m).trans (refused_iff (sourceRefused_iff img) m)
  · exact firstRefused_spec (by decide) fun m => (breaks_sub _ m).trans (refused_iff (subRefused_iff img) m)
  · exact firstRefused_spec (by decide) fun m => (breaks_profile _ m).trans
      (refused_iff (B := fun n => 256 * byteNat img (333 + 8 * n) + byteNat img (334 + 8 * n) = 0 ∨
        256 * byteNat img (335 + 8 * n) + byteNat img (336 + 8 * n) = 0 ∨ 3 < byteNat img (338 + 8 * n))
        (profileRefused_iff img) m)
  · exact firstRefused_spec (by decide) fun m => (breaks_gen _ m).trans
      (refused_iff (B := fun n => byteNat img (460 + 2 * n) / 32 % 4 = 3) (genRefused_iff img) m)
  · exact firstRefused_spec (by decide) fun m => (breaks_counter _ m).trans
      (refused_iff (B := fun n => 256 * byteNat img (475 + 3 * n) + byteNat img (476 + 3 * n) = 0)
        (counterRefused_iff img) m)

/-- The parts are judged in the order of R182. -/
theorem parts_ordered : [7, 0, 1, 2, 3, 4].Pairwise (fun t t' : Nat => (t + 1) % 8 < (t' + 1) % 8) := by decide

theorem mem_parts_of_breaks {b : Nat → Nat} {t n : Nat} (h : Breaks b t n) : t ∈ [7, 0, 1, 2, 3, 4] := by
  have := table_of_breaks h
  simp only [List.mem_cons, List.not_mem_nil, or_false]
  omega

theorem validate_spec (img : List Byte) :
    (validate img = none → ∀ t n, ¬Breaks (byteNat img) t n) ∧
      ∀ t i, validate img = some (t, i) → Breaks (byteNat img) t.toNat i.toNat ∧
        ∀ t' n', CheckedBefore t' n' t.toNat i.toNat → ¬Breaks (byteNat img) t' n' := by
  obtain ⟨hnone, hsome⟩ := validate_judges img
  refine ⟨fun h t n hb => hnone h t (mem_parts_of_breaks hb) n hb, fun t i h => ?_⟩
  obtain ⟨before, after, hts, hfirst, hclear⟩ := hsome t i h
  refine ⟨hfirst.1, fun t' n' hbefore hb => ?_⟩
  rcases hbefore with hlt | ⟨rfl, hlt⟩
  · have hmem := mem_parts_of_breaks hb
    have hord := parts_ordered
    rw [hts] at hmem hord
    rcases List.mem_append.1 hmem with hmem | hmem
    · exact hclear t' hmem n' hb
    · rcases List.mem_cons.1 hmem with rfl | hmem
      · omega
      · have := (List.pairwise_cons.1 (List.pairwise_append.1 hord).2.1).1 t' hmem
        omega
  · exact hfirst.2 n' hlt hb

/-- Of two places one is checked before the other. -/
theorem checkedBefore_total {t n t' n' : Nat} (ht : t < 8) (ht' : t' < 8) :
    (t = t' ∧ n = n') ∨ CheckedBefore t n t' n' ∨ CheckedBefore t' n' t n := by
  unfold CheckedBefore
  omega

/-- Settles O6: the ends of a pass, and the first failing entry, which is the only one with none before it. -/
theorem readPassEndRefusesAnImage : Obligations.ReadPassEndRefusesAnImage := by
  refine ⟨fun s body d => refused_image_retries_or_fails s body d, fun img => ?_⟩
  change (validate img = none ↔ ∀ t n, ¬Breaks (byteNat img) t n) ∧ ∀ table index, validate img = some (table, index) ↔
    Breaks (byteNat img) table.toNat index.toNat ∧
      ∀ t n, CheckedBefore t n table.toNat index.toNat → ¬Breaks (byteNat img) t n
  obtain ⟨hnone, hsome⟩ := validate_spec img
  refine ⟨⟨hnone, fun h => ?_⟩, fun table index => ⟨hsome table index, fun ⟨hb, hfirst⟩ => ?_⟩⟩
  · cases hv : validate img with
    | none => rfl
    | some r => exact absurd (hsome r.1 r.2 hv).1 (h _ _)
  · cases hv : validate img with
    | none => exact absurd hb (hnone hv _ _)
    | some r =>
      obtain ⟨hb', hfirst'⟩ := hsome r.1 r.2 hv
      rcases checkedBefore_total r.1.isLt table.isLt with ⟨ht, hn⟩ | hlt | hlt
      · rw [Option.some_inj]
        exact Prod.ext (BitVec.toNat_inj.1 ht) (BitVec.toNat_inj.1 hn)
      · exact absurd hb' (hfirst _ _ hlt)
      · exact absurd hb (hfirst' _ _ hlt)

end Sys2Proof.Machine
end

section
/-! PROOF. One entry of the source table at one event: a qualifying edge, the condition, and the two timers of a hold
(R11, R12, R15, R25–R29, R34–R37); and the input conditioner at a change of its pin (R2–R4). -/

namespace Sys2Proof.Machine

@[simp] theorem State.setSource_setSource (s : State) (i : Fin 16) (x y : SourceEntry) :
    (s.setSource i x).setSource i y = s.setSource i y := by
  simp only [State.setSource, upd_upd]

/-! ## A qualifying edge (R11, R12, R15) -/

theorem satInc_of_ne {x : BitVec 4} (h : x ≠ 15) : satInc x = x + 1 := if_neg h

theorem satInc_full : satInc (15 : BitVec 4) = 15 := rfl

theorem countEdge_of_idle {e : SourceEntry} (d : Direction) (h : e.edgeState = .idle) :
    e.countEdge d = ({ e with pendingCount := 1, lastDir := d, edgeState := .owed }, false) := by
  simp only [SourceEntry.countEdge, h]

theorem countEdge_of_waiting {e : SourceEntry} (d : Direction) (h : e.edgeState = .owed ∨ e.edgeState = .listed) :
    e.countEdge d = ({ e with pendingCount := satInc e.pendingCount, lastDir := d }, decide (e.pendingCount = 15)) := by
  rcases h with h | h <;> simp only [SourceEntry.countEdge, h]

theorem countEdge_of_sending {e : SourceEntry} (d : Direction) (h : e.edgeState = .sending) :
    e.countEdge d = ({ e with nextCount := satInc e.nextCount, lastDir := d }, decide (e.nextCount = 15)) := by
  simp only [SourceEntry.countEdge, h]

@[simp] theorem tally_count_self (s : State) (t : TallyName) : (s.count t).tally t = satInc (s.tally t) :=
  look_upd_self _ _ _

theorem takeEdge_of_counted {s : State} {i : Fin 16} {d : Direction} {e : SourceEntry}
    (h : (s.source i).countEdge d = (e, false)) : s.takeEdge i d = s.setSource i e := by
  simp only [State.takeEdge, h, Bool.false_eq_true, if_false]

theorem takeEdge_of_lost {s : State} {i : Fin 16} {d : Direction} {e : SourceEntry}
    (h : (s.source i).countEdge d = (e, true)) : s.takeEdge i d = (s.setSource i e).noteLostEdge := by
  simp only [State.takeEdge, h, if_true]

/-- Settles O11, state by state. -/
theorem qualifyingEdgesSaturateAt15 : Obligations.QualifyingEdgesSaturateAt15 := by
  intro s i d
  refine ⟨fun h => takeEdge_of_counted (countEdge_of_idle d h), fun h => ⟨fun hn => ?_, fun hf => ?_⟩,
    fun h => ⟨fun hn => ?_, fun hf => ?_⟩⟩
  · exact takeEdge_of_counted (by rw [countEdge_of_waiting d h, satInc_of_ne hn, decide_eq_false hn])
  · have ht := takeEdge_of_lost (s := s) (by rw [countEdge_of_waiting d h, decide_eq_true hf])
    rw [ht, hf, satInc_full, ← hf]
    exact ⟨rfl, tally_count_self (s.setSource i _) .lostEdges, rfl, rfl⟩
  · exact takeEdge_of_counted (by rw [countEdge_of_sending d h, satInc_of_ne hn, decide_eq_false hn])
  · have ht := takeEdge_of_lost (s := s) (by rw [countEdge_of_sending d h, decide_eq_true hf])
    rw [ht, hf, satInc_full, ← hf]
    exact ⟨rfl, tally_count_self (s.setSource i _) .lostEdges, rfl, rfl⟩

/-! ## Address sets (section 2.2) -/

/-- A set is kept in ascending order. -/
def Ascending (l : List Addr) : Prop := l.Pairwise fun a b => a.toNat < b.toNat

theorem Ascending.nodup {l : List Addr} (h : Ascending l) : l.Nodup :=
  h.imp fun hab heq => by simp [heq] at hab

theorem addrInsert_ascending (a : Addr) {l : List Addr} (h : Ascending l) : Ascending (addrInsert a l) := by
  induction l with
  | nil => exact List.pairwise_singleton _ _
  | cons b l ih =>
    obtain ⟨hb, hl⟩ := List.pairwise_cons.1 h
    unfold addrInsert
    split
    · next hlt =>
      refine List.pairwise_cons.2 ⟨fun c hc => ?_, h⟩
      rcases List.mem_cons.1 hc with rfl | hc
      · exact hlt
      · exact hlt.trans (hb c hc)
    · next hge =>
      split
      · exact h
      · next hne =>
        refine List.pairwise_cons.2 ⟨fun c hc => ?_, ih hl⟩
        rcases mem_addrInsert.1 hc with rfl | hc
        · have : c.toNat ≠ b.toNat := fun heq => hne (BitVec.toNat_inj.1 heq)
          omega
        · exact hb c hc

theorem addrSet_ascending (l : List Addr) : Ascending (addrSet l) := by
  induction l with
  | nil => exact List.Pairwise.nil
  | cons a l ih => exact addrInsert_ascending a ih

theorem requiredFor_nodup (s : State) (e : SourceEntry) : (s.requiredFor e).Nodup := by
  unfold State.requiredFor
  split
  · exact (addrSet_ascending _).nodup
  · exact List.nodup_nil

theorem mem_requiredFor {s : State} {e : SourceEntry} {a : Addr} : a ∈ s.requiredFor e ↔
    e.quorum = 0 ∧ some a ∈ e.releasers.toList ∧ a ≠ s.address ∧
      ¬(e.waiveLost = true ∧ (s.rosterAt a).state = .lost) := by
  unfold State.requiredFor
  split
  · next h =>
    simp only [mem_addrSet, List.mem_filter, List.mem_filterMap, id_eq, exists_eq_right, Bool.and_eq_true, bne_iff_ne,
      Bool.not_eq_true', Bool.and_eq_false_iff, decide_eq_false_iff_not, h, true_and]
    cases e.waiveLost <;> simp
  · next h => exact iff_of_false (by simp) fun hh => h hh.1

/-! ## The condition (R27, R35–R37) -/

theorem conditionAsserts_of_quiet {s : State} {i : Fin 16} (h : (s.source i).holdState = .quiet) :
    s.conditionAsserts i = s.setSource i { s.source i with
      condition := true, inst := (s.source i).inst + 1, received := [], required := s.requiredFor (s.source i)
      reannounces := 0, announced := false, dropNoted := false, predOpen := false, releaseTimer := none
      repeatTimer := none, holdState := .announcing } := by
  simp only [State.conditionAsserts, h, State.startInst, State.source_setSource_self, State.setSource_setSource]
  rfl

theorem conditionAsserts_of_announcing {s : State} {i : Fin 16} (h : (s.source i).holdState = .announcing) :
    s.conditionAsserts i = s.setSource i { s.source i with condition := true, dropNoted := false } := by
  simp only [State.conditionAsserts, h, State.setSource_setSource]

theorem conditionAsserts_of_ne {s : State} {i : Fin 16} (hq : (s.source i).holdState ≠ .quiet)
    (ha : (s.source i).holdState ≠ .announcing) :
    s.conditionAsserts i = s.setSource i { s.source i with condition := true } := by
  unfold State.conditionAsserts
  dsimp only
  split
  · next h => exact absurd h hq
  · next h => exact absurd h ha
  all_goals rfl

/-- Settles O12, by the hold state. -/
theorem assertionStartsAnInstance : Obligations.AssertionStartsAnInstance := by
  intro s i
  refine ⟨fun h => ?_, conditionAsserts_of_announcing, conditionAsserts_of_ne⟩
  rw [conditionAsserts_of_quiet h, State.source_setSource_self]
  exact ⟨rfl, rfl, rfl, rfl, rfl, rfl, rfl, rfl, rfl, rfl, rfl, requiredFor_nodup _ _, fun a => mem_requiredFor⟩

/-- An entry whose condition drops at ANNOUNCING with its HOLD not on the bus (R35(a), (b)). -/
def SourceEntry.retracted (e : SourceEntry) : SourceEntry :=
  if e.announced then { e with holdState := .ending, dropNoted := false }
  else if e.predOpen then { e with holdState := .ending, inst := e.inst - 1, predOpen := false, dropNoted := false }
  else { e with holdState := .quiet, dropNoted := false }

theorem dropOffBus_eq (s : State) (i : Fin 16) :
    s.dropOffBus i = (s.withdrawEntry (.source i)).setSource i (s.source i).retracted := by
  unfold State.dropOffBus SourceEntry.retracted
  dsimp only
  split
  · rfl
  · split <;> rfl

theorem conditionDrops_of_silent {s : State} {i : Fin 16}
    (h : (s.source i).holdState = .quiet ∨ (s.source i).holdState = .ending) :
    s.conditionDrops i = s.setSource i { s.source i with condition := false } := by
  rcases h with h | h <;> simp only [State.conditionDrops, h]

theorem conditionDrops_of_onBus {s : State} {i : Fin 16} (h : (s.source i).holdState = .announcing)
    (hb : s.holdOnBus i = true) :
    s.conditionDrops i = s.setSource i { s.source i with condition := false, dropNoted := true } := by
  simp only [State.conditionDrops, h, hb, if_true, State.setSource_setSource]

theorem conditionDrops_of_offBus {s : State} {i : Fin 16} (h : (s.source i).holdState = .announcing)
    (hb : s.holdOnBus i = false) : s.conditionDrops i =
      (s.withdrawEntry (.source i)).setSource i ({ s.source i with condition := false } : SourceEntry).retracted := by
  have heq : s.conditionDrops i = (s.setSource i { s.source i with condition := false }).dropOffBus i := by
    simp only [State.conditionDrops, h, hb, Bool.false_eq_true, if_false]
  rw [heq, dropOffBus_eq, State.source_setSource_self]
  exact State.setSource_setSource (s.withdrawEntry (.source i)) i _ _

theorem conditionDrops_of_heard {s : State} {i : Fin 16} (h : (s.source i).holdState = .awaiting ∨
    (s.source i).holdState = .orphaned ∨ (s.source i).holdState = .satisfied) :
    s.conditionDrops i = (s.setSource i { s.source i with
      condition := false, holdState := .ending, releaseTimer := none, repeatTimer := none }).refreshOrphaned := by
  rcases h with h | h | h <;> simp only [State.conditionDrops, h, State.setSource_setSource]

theorem refreshOrphaned_shown (s : State) : OrphanShown s.refreshOrphaned := by
  have hany : s.refreshOrphaned.faults.orphaned = (indices 16).any (fun i => (s.source i).holdState = .orphaned) := rfl
  rw [OrphanShown, hany, List.any_eq_true]
  simp only [mem_indices, true_and, decide_eq_true_eq]
  exact Iff.rfl

theorem retracted_condition (e : SourceEntry) : e.retracted.condition = e.condition := by
  unfold SourceEntry.retracted
  split
  · rfl
  · split <;> rfl

/-- A drop changes one entry of the table. -/
theorem conditionDrops_sources (s : State) (i : Fin 16) :
    ∃ f : SourceEntry, f.condition = false ∧ (s.conditionDrops i).sources = upd s.sources i f := by
  cases h : (s.source i).holdState with
  | quiet => exact ⟨_, rfl, congrArg State.sources (conditionDrops_of_silent (.inl h))⟩
  | ending => exact ⟨_, rfl, congrArg State.sources (conditionDrops_of_silent (.inr h))⟩
  | announcing =>
    cases hb : s.holdOnBus i with
    | true => exact ⟨_, rfl, congrArg State.sources (conditionDrops_of_onBus h hb)⟩
    | false => exact ⟨_, retracted_condition _, congrArg State.sources (conditionDrops_of_offBus h hb)⟩
  | awaiting => exact ⟨_, rfl, congrArg State.sources (conditionDrops_of_heard (.inl h))⟩
  | orphaned => exact ⟨_, rfl, congrArg State.sources (conditionDrops_of_heard (.inr (.inl h)))⟩
  | satisfied => exact ⟨_, rfl, congrArg State.sources (conditionDrops_of_heard (.inr (.inr h)))⟩

/-- Settles O13, by the hold state and the place of the HOLD. -/
theorem dropIsTakenByTheHoldState : Obligations.DropIsTakenByTheHoldState := by
  intro s i
  obtain ⟨f, hf, hsrc⟩ := conditionDrops_sources s i
  refine ⟨?_, fun j hj => ?_, conditionDrops_of_silent, conditionDrops_of_onBus, fun h hb => ?_, fun h => ?_⟩
  · rw [State.source, hsrc, look_upd_self]
    exact hf
  · rw [State.source, hsrc, look_upd_ne _ _ hj.symm]
    rfl
  · rw [conditionDrops_of_offBus h hb, State.source_setSource_self]
    refine ⟨rfl, fun ha => ?_, fun ha hp => ?_, fun ha hp => ?_⟩
    · simp [SourceEntry.retracted, ha]
    · simp [SourceEntry.retracted, ha, hp]
    · simp [SourceEntry.retracted, ha, hp]
  · rw [conditionDrops_of_heard h]
    refine ⟨?_, ?_, ?_, ?_, rfl, refreshOrphaned_shown _⟩ <;> rw [refreshOrphaned_source, State.source_setSource_self]

/-! ## The timers of a hold (R29, R34) -/

theorem releaseExpired_of_last {s : State} {i : Fin 16} (h : (s.source i).reannounces = 3) :
    s.releaseExpired i = { s with
      sources := upd s.sources i { s.source i with holdState := .orphaned, releaseTimer := none, repeatTimer := none }
      faults := { s.faults with orphaned := true } } := by
  have hnot : ¬(s.source i).reannounces.toNat < 3 := by rw [h]; decide
  have hany : (indices 16).any (fun j => decide (((s.setSource i
      { s.source i with holdState := .orphaned, releaseTimer := none, repeatTimer := none }).source j).holdState =
      .orphaned)) = true :=
    List.any_eq_true.2 ⟨i, mem_indices i, by simp⟩
  simp only [State.releaseExpired, hnot, if_false, State.refreshOrphaned, hany]
  rfl

/-- Settles O14, by the re-announce count. -/
theorem releaseTimerExpiryReannouncesOrOrphans : Obligations.ReleaseTimerExpiryReannouncesOrOrphans := by
  intro s i d hd
  have hexec : exec (.releaseTimerExpiry i) s =
      .next ((s.reach (s.source i).releaseTimer).releaseExpired i).settle := if_neg (by rw [hd]; simp)
  rw [hexec, reach_eq hd]
  refine ⟨fun h => ?_, fun h => ?_⟩
  · have hlt : ((s.setTime (max s.time d)).source i).reannounces.toNat < 3 := by
      change (s.source i).reannounces.toNat < 3
      bv_omega
    rw [State.releaseExpired, if_pos hlt]
    rfl
  · rw [releaseExpired_of_last (s := s.setTime (max s.time d)) h]
    rfl

/-- Settles O15: a new number starts with the predecessor-open flag yes. -/
theorem repeatTimerExpiryStartsTheNextInstance : Obligations.RepeatTimerExpiryStartsTheNextInstance := by
  intro s i d hd
  have hexec : exec (.repeatTimerExpiry i) s =
      .next ((s.reach (s.source i).repeatTimer).startInst i true).settle := if_neg (by rw [hd]; simp)
  rw [hexec, reach_eq hd]
  rfl

/-! ## The input conditioner (R2–R4) -/

theorem SourceSide.inputs_eq {s t : State} (h : SourceSide s t) : t.inputs = s.inputs ∧ t.pins = s.pins := by
  obtain ⟨_, _, _, _, rfl⟩ := h
  exact ⟨rfl, rfl⟩

theorem SettleSide.inputs_eq {s t : State} (h : SettleSide s t) : t.inputs = s.inputs ∧ t.pins = s.pins := by
  obtain ⟨_, _, _, _, _, _, _, _, rfl⟩ := h
  exact ⟨rfl, rfl⟩

/-- A change of the filtered level is at the sources and the transmit side, but for the line itself. -/
theorem filteredChange_inputs (s : State) (n : Fin 16) (c : Bool) :
    (s.filteredChange n c).inputs = upd s.inputs n { s.input n with filtered := c, stability := none } ∧
      (s.filteredChange n c).pins = s.pins := by
  unfold State.filteredChange
  dsimp only
  generalize ht : s.setInput n { s.input n with filtered := c, stability := none } = t
  have hsource := (presentEdge_side t (.input n) (if c then .rise else .fall)).trans
    (presentLevel_side _ (.input n) c)
  obtain ⟨hi, hp⟩ := (settle_side _).inputs_eq
  rw [hi, hp, hsource.inputs_eq.1, hsource.inputs_eq.2, ← ht]
  exact ⟨rfl, rfl⟩

/-- Settles O8: by the loader, the conditioned level, the filter time and the interval. -/
theorem pinChangeDrivesTheFilter : Obligations.PinChangeDrivesTheFilter := by
  intro n level s
  have hcond : (s.setPin n level).conditioned n = (level != (s.input n).invert) := by
    rw [State.conditioned, State.setPin_pins, look_upd_self]
    rfl
  have hready : s.loader.phase = .ready →
      exec (.inputPinChange n level) s = .next ((s.setPin n level).conditionerStep n) := fun h => if_pos h
  have hinput : (s.setPin n level).input n = s.input n := rfl
  refine ⟨fun h => if_neg h, fun h hc => ?_, fun h hc hf hs => ?_, fun h hc hf hs => ?_, fun h hc hf => ?_⟩
  · rw [hready h, State.conditionerStep, hcond, hinput, if_pos hc]
    rfl
  · rw [hready h, State.conditionerStep, hcond, hinput, if_neg hc, if_neg hf, if_pos hs]
    rfl
  · rw [hready h, State.conditionerStep, hcond, hinput, if_neg hc, if_neg hf, if_neg hs]
    rfl
  · obtain ⟨hi, hp⟩ := filteredChange_inputs (s.setPin n level) n (level != (s.input n).invert)
    refine ⟨(s.setPin n level).filteredChange n (level != (s.input n).invert), ?_, ?_, hp, rfl⟩
    · rw [hready h, State.conditionerStep, hcond, hinput, if_neg hc, if_pos hf]
    · rw [State.input, hi, look_upd_self]
      rfl

end Sys2Proof.Machine
end

section
/-! PROOF. Admission (R128, R129, R130): the demands in their order, which of them come into the list, and what their
producers are told. -/

namespace Sys2Proof.Machine

/-! ## The demands and their order (R129) -/

/-- The place of a demand in the order of R129, by its producer and kind. -/
def TxEntry.place (e : TxEntry) : Nat :=
  match e.producer with
  | .record j => j.val
  | .source i => if e.kind = .edge then 25 + i.val else 8 + i.val
  | .responder => 41
  | .beacon => if e.kind = .join then 24 else 42

theorem fresh_unsent (k : Kind) (ch : Channel) (m : Option Msg) (p : Producer) : (TxEntry.fresh k ch m p).Unsent :=
  ⟨rfl, rfl, rfl, rfl, rfl, rfl⟩

/-- An unsent entry is the fresh one of its four contents. -/
theorem offers_iff {e : TxEntry} {k : Kind} {ch : Channel} {m : Option Msg} {p : Producer} :
    e.Offers k ch m p ↔ e = TxEntry.fresh k ch m p := by
  constructor
  · rintro ⟨⟨h1, h2, h3, h4, h5, h6⟩, h7, h8, h9, h10⟩
    cases e
    simp_all [TxEntry.fresh]
  · rintro rfl
    exact ⟨fresh_unsent _ _ _ _, rfl, rfl, rfl, rfl⟩

theorem recordDemand_iff {s : State} {e : TxEntry} {j : Fin 8} : s.recordDemand j = some e ↔ OwesRelease s e j := by
  simp only [OwesRelease, offers_iff, State.recordDemand]
  cases hr : s.slot j with
  | none => simp
  | some r =>
    simp only [Option.mem_def, Option.some_inj, exists_eq_left']
    split
    · next h => simp [h, eq_comm]
    · next h => simp [h]

theorem holdDemand_iff {s : State} {e : TxEntry} {i : Fin 16} : s.holdDemand i = some e ↔ OwesHold s e i := by
  have hbne : ((s.source i).reannounces != 0) = decide ((s.source i).reannounces ≠ 0) := Bool.eq_iff_iff.2 (by simp)
  simp only [OwesHold, offers_iff]
  unfold State.holdDemand
  dsimp only
  rw [hbne]
  split
  · next h1 h2 => simp [h1, h2, eq_comm]
  · next h1 h2 => simp [h1, h2, eq_comm]
  · next hne h1 =>
    refine iff_of_false (by simp) ?_
    rintro ⟨hh, ⟨ha, _⟩ | ⟨ha, _⟩⟩
    · exact hne hh ha
    · exact h1 hh ha

theorem joinDemand_iff {s : State} {e : TxEntry} : s.joinDemand = some e ↔ OwesJoin s e := by
  simp only [OwesJoin, offers_iff, State.joinDemand]
  split
  · next h => simp [h, eq_comm, State.ownSignature]
  · next h => simp [h]

theorem edgeDemand_iff {s : State} {e : TxEntry} {i : Fin 16} : s.edgeDemand i = some e ↔ OwesEdge s e i := by
  simp only [OwesEdge, offers_iff, State.edgeDemand, SourceEntry.owesEdge, decide_eq_true_eq]
  split
  · next h => simp [h, eq_comm]
  · next h => simp [h]

theorem reportDemand_iff {s : State} {e : TxEntry} : s.reportDemand = some e ↔ OwesReport s e := by
  simp only [OwesReport, offers_iff, State.reportDemand]
  cases s.reply with
  | none => simp
  | some r =>
    simp only [Option.mem_def, Option.some_inj, exists_eq_left']
    split
    · next h => simp [h, eq_comm]
    · next h => simp [h]

theorem presenceDemand_iff {s : State} {e : TxEntry} : s.presenceDemand = some e ↔ OwesPresence s e := by
  simp only [OwesPresence, offers_iff, State.presenceDemand]
  split
  · next h => simp [h, eq_comm]
  · next h => simp [h]

/-- The demands are the frames owed. -/
theorem mem_demands {s : State} {e : TxEntry} : e ∈ s.demands ↔ ∃ n, OwedAt s e n := by
  simp only [State.demands, List.mem_append, List.mem_filterMap, Option.mem_toList, mem_indices, true_and,
    recordDemand_iff, holdDemand_iff, joinDemand_iff, edgeDemand_iff, reportDemand_iff, presenceDemand_iff, OwedAt]
  constructor
  · rintro (((((⟨j, h⟩ | ⟨i, h⟩) | h) | ⟨i, h⟩) | h) | h)
    exacts [⟨_, .inl ⟨j, rfl, h⟩⟩, ⟨_, .inr (.inl ⟨i, rfl, h⟩)⟩, ⟨_, .inr (.inr (.inl ⟨rfl, h⟩))⟩,
      ⟨_, .inr (.inr (.inr (.inl ⟨i, rfl, h⟩)))⟩, ⟨_, .inr (.inr (.inr (.inr (.inl ⟨rfl, h⟩))))⟩,
      ⟨_, .inr (.inr (.inr (.inr (.inr ⟨rfl, h⟩))))⟩]
  · rintro ⟨n, ⟨j, _, h⟩ | ⟨i, _, h⟩ | ⟨_, h⟩ | ⟨i, _, h⟩ | ⟨_, h⟩ | ⟨_, h⟩⟩
    exacts [.inl (.inl (.inl (.inl (.inl ⟨j, h⟩)))), .inl (.inl (.inl (.inl (.inr ⟨i, h⟩)))), .inl (.inl (.inl (.inr h))),
      .inl (.inl (.inr ⟨i, h⟩)), .inl (.inr h), .inr h]

/-- A frame owed carries its producer and kind, and is unsent. -/
theorem OwedAt.place_eq {s : State} {e : TxEntry} {n : Nat} (h : OwedAt s e n) : n = e.place ∧ e.Unsent := by
  rcases h with ⟨j, rfl, r, _, _, h⟩ | ⟨i, rfl, _, ⟨_, h⟩ | ⟨_, h⟩⟩ | ⟨rfl, _, h⟩ | ⟨i, rfl, _, h⟩ | ⟨rfl, _, h⟩ | ⟨rfl, _, h⟩
  all_goals
    obtain ⟨hu, hk, _, _, hp⟩ := h
    exact ⟨by simp [TxEntry.place, hp, hk], hu⟩

/-- The places in the list ascend, and lie from `a` up to `b`. -/
def Ascends (a b : Nat) (l : List TxEntry) : Prop :=
  l.Pairwise (fun x y => x.place < y.place) ∧ ∀ e ∈ l, a ≤ e.place ∧ e.place < b

theorem Ascends.append {a b c : Nat} {l m : List TxEntry} (hl : Ascends a b l) (hm : Ascends b c m) (hab : a ≤ b)
    (hbc : b ≤ c) : Ascends a c (l ++ m) := by
  refine ⟨List.pairwise_append.2 ⟨hl.1, hm.1, fun x hx y hy => ?_⟩, fun e he => ?_⟩
  · have h1 := (hl.2 x hx).2
    have h2 := (hm.2 y hy).1
    omega
  · rcases List.mem_append.1 he with he | he
    · have := hl.2 e he
      omega
    · have := hm.2 e he
      omega

theorem ascends_table {n base : Nat} {f : Fin n → Option TxEntry} (h : ∀ i e, f i = some e → e.place = base + i.val) :
    Ascends base (base + n) ((indices n).filterMap f) := by
  refine ⟨(List.pairwise_lt_finRange n).filterMap f (fun i j (hij : i.val < j.val) a ha b hb => ?_), fun e he => ?_⟩
  · rw [h i a ha, h j b hb]
    omega
  · obtain ⟨i, _, hi⟩ := List.mem_filterMap.1 he
    have := h i e hi
    have := i.isLt
    omega

theorem ascends_one {o : Option TxEntry} {n : Nat} (h : ∀ e, o = some e → e.place = n) : Ascends n (n + 1) o.toList := by
  cases o with
  | none => exact ⟨List.Pairwise.nil, by simp⟩
  | some e => exact ⟨List.pairwise_singleton _ _, by simp [h e rfl]⟩

/-- The places of the demands ascend. -/
theorem demands_ascend (s : State) : Ascends 0 43 s.demands := by
  have hplace : ∀ {e n}, OwedAt s e n → e.place = n := fun h => h.place_eq.1.symm
  have hrecord : Ascends 0 8 ((indices 8).filterMap s.recordDemand) :=
    ascends_table fun j e h => hplace (.inl ⟨j, Nat.zero_add _, recordDemand_iff.1 h⟩)
  have hhold : Ascends 8 24 ((indices 16).filterMap s.holdDemand) :=
    ascends_table fun i e h => hplace (.inr (.inl ⟨i, rfl, holdDemand_iff.1 h⟩))
  have hjoin : Ascends 24 25 s.joinDemand.toList :=
    ascends_one fun e h => hplace (.inr (.inr (.inl ⟨rfl, joinDemand_iff.1 h⟩)))
  have hedge : Ascends 25 41 ((indices 16).filterMap s.edgeDemand) :=
    ascends_table fun i e h => hplace (.inr (.inr (.inr (.inl ⟨i, rfl, edgeDemand_iff.1 h⟩))))
  have hreport : Ascends 41 42 s.reportDemand.toList :=
    ascends_one fun e h => hplace (.inr (.inr (.inr (.inr (.inl ⟨rfl, reportDemand_iff.1 h⟩)))))
  have hpresence : Ascends 42 43 s.presenceDemand.toList :=
    ascends_one fun e h => hplace (.inr (.inr (.inr (.inr (.inr ⟨rfl, presenceDemand_iff.1 h⟩)))))
  exact ((((hrecord.append hhold (by decide) (by decide)).append hjoin (by decide) (by decide)).append hedge (by decide)
    (by decide)).append hreport (by decide) (by decide)).append hpresence (by decide) (by decide)

end Sys2Proof.Machine
end

section
/-! PROOF. Admission, continued: the demands that the arbiter takes, and what their producers are told (R130). -/

namespace Sys2Proof.Machine

/-! ## What a producer is told -/

/-- The EDGE of source entry `i`. -/
def TxEntry.isEdgeOf (i : Fin 16) (e : TxEntry) : Bool := e.kind = .edge && e.producer = .source i

/-- An entry of the producer `p`. -/
def TxEntry.isOf (p : Producer) (e : TxEntry) : Bool := e.producer = p

/-- The JOIN, and the PRESENCE, of the beacon. -/
def TxEntry.isJoin (e : TxEntry) : Bool := e.producer = .beacon && e.kind = .join
def TxEntry.isPresence (e : TxEntry) : Bool := e.producer = .beacon && e.kind != .join

/-- A source entry, a record, a reply and the beacon that have been told of an admission. -/
def SourceEntry.listed (e : SourceEntry) : SourceEntry := { e with edgeState := .listed }
def AcceptRecord.listed (r : AcceptRecord) : AcceptRecord := { r with state := .releaseListed, releaseListed := true }
def Reply.listed (r : Reply) : Reply := { r with state := .listed }
def Beacon.told (b : Beacon) (join presence : Bool) : Beacon :=
  { b with owesJoin := b.owesJoin && !join, owesPresence := b.owesPresence && !presence }

/-- The entries `adm` have come into the list of `s`, and their producers have been told. -/
structure Admission (s t : State) (adm : List TxEntry) : Prop where
  source : ∀ i, t.source i = if adm.any (TxEntry.isEdgeOf i) then (s.source i).listed else s.source i
  slot : ∀ j, t.slot j = if adm.any (TxEntry.isOf (.record j)) then (s.slot j).map AcceptRecord.listed else s.slot j
  reply : t.reply = if adm.any (TxEntry.isOf .responder) then s.reply.map Reply.listed else s.reply
  beacon : t.beacon = s.beacon.told (adm.any TxEntry.isJoin) (adm.any TxEntry.isPresence)
  perm : t.tx.Perm (adm ++ s.tx)
  sublist : s.tx.Sublist t.tx
  bus : t.bus = s.bus

@[simp] theorem Beacon.told_none (b : Beacon) : b.told false false = b := by
  simp [Beacon.told]

theorem Beacon.told_told (b : Beacon) (j p j' p' : Bool) : (b.told j p).told j' p' = b.told (j || j') (p || p') := by
  simp [Beacon.told, Bool.and_assoc]

/-- To be told twice is to be told once. -/
theorem told_twice {α : Type} {f : α → α} (hf : ∀ x, f (f x) = f x) (p q : Bool) (x : α) :
    (if q then f (if p then f x else x) else if p then f x else x) = if p || q then f x else x := by
  cases p <;> cases q <;> simp [hf]

theorem Admission.refl (s : State) : Admission s s [] where
  source _ := rfl
  slot _ := rfl
  reply := rfl
  beacon := (Beacon.told_none s.beacon).symm
  perm := .refl _
  sublist := .refl _
  bus := rfl

theorem Admission.cons {s t u : State} {e : TxEntry} {adm : List TxEntry} (h : Admission s t [e]) (k : Admission t u adm) :
    Admission s u (e :: adm) where
  source i := by
    rw [k.source, h.source, List.any_cons]
    simp only [List.any_cons, List.any_nil, Bool.or_false]
    exact told_twice (f := SourceEntry.listed) (fun _ => rfl) _ _ _
  slot j := by
    rw [k.slot, h.slot]
    simp only [List.any_cons, List.any_nil, Bool.or_false]
    exact told_twice (fun x => by cases x <;> rfl) _ _ _
  reply := by
    rw [k.reply, h.reply]
    simp only [List.any_cons, List.any_nil, Bool.or_false]
    exact told_twice (fun x => by cases x <;> rfl) _ _ _
  beacon := by
    rw [k.beacon, h.beacon, Beacon.told_told]
    simp only [List.any_cons, List.any_nil, Bool.or_false]
  perm := k.perm.trans (((h.perm.append_left adm)).trans List.perm_middle)
  sublist := h.sublist.trans k.sublist
  bus := k.bus.trans h.bus

theorem insertAfterUrgent_sublist (e : TxEntry) (l : List TxEntry) : l.Sublist (insertAfterUrgent e l) := by
  rw [insertAfterUrgent_eq]
  conv => lhs; rw [← List.takeWhile_append_dropWhile (p := TxEntry.urgent) (l := l)]
  exact (List.Sublist.refl _).append (List.sublist_cons_self _ _)

theorem admitEntry_sublist (e : TxEntry) (l : List TxEntry) : l.Sublist (admitEntry e l) := by
  unfold admitEntry admitUrgent
  split
  · split
    · exact List.nil_sublist _
    · split
      · exact (insertAfterUrgent_sublist e _).cons_cons _
      · exact insertAfterUrgent_sublist e _
  · exact List.sublist_append_left l _

theorem tellAdmitted_source (s : State) (e : TxEntry) (i : Fin 16) :
    (s.tellAdmitted e).source i = if e.isEdgeOf i then (s.source i).listed else s.source i := by
  unfold State.tellAdmitted TxEntry.isEdgeOf
  cases hp : e.producer with
  | source j =>
    by_cases hk : e.kind = .edge
    · simp only [hk, if_true, decide_true, Bool.true_and, decide_eq_true_eq, Producer.source.injEq, State.source_setSource]
      split
      · next hij => rw [hij]; rfl
      · rfl
    · simp [hk]
  | record j => simp; rfl
  | responder => simp; rfl
  | beacon =>
    by_cases hk : e.kind = .join
    · simp [hk]; rfl
    · simp [hk]; rfl

theorem tellAdmitted_slot (s : State) (e : TxEntry) (j : Fin 8) : (s.tellAdmitted e).slot j =
    if e.isOf (.record j) then (s.slot j).map AcceptRecord.listed else s.slot j := by
  unfold State.tellAdmitted TxEntry.isOf
  cases hp : e.producer with
  | source i =>
    by_cases hk : e.kind = .edge
    · simp [hk]; rfl
    · simp [hk]
  | record i =>
    simp only [decide_eq_true_eq, Producer.record.injEq]
    change (s.setSlot i _).slot j = _
    rw [State.slot_setSlot]
    split
    · next hij => rw [hij]; rfl
    · rfl
  | responder => simp; rfl
  | beacon => by_cases hk : e.kind = .join <;> simp [hk] <;> rfl

theorem tellAdmitted_reply (s : State) (e : TxEntry) : (s.tellAdmitted e).reply =
    if e.isOf .responder then s.reply.map Reply.listed else s.reply := by
  unfold State.tellAdmitted TxEntry.isOf
  cases hp : e.producer with
  | source i => by_cases hk : e.kind = .edge <;> simp [hk]
  | record j => simp; rfl
  | responder => simp; rfl
  | beacon => by_cases hk : e.kind = .join <;> simp [hk]

theorem tellAdmitted_beacon (s : State) (e : TxEntry) :
    (s.tellAdmitted e).beacon = s.beacon.told e.isJoin e.isPresence := by
  unfold State.tellAdmitted TxEntry.isJoin TxEntry.isPresence
  cases hp : e.producer with
  | source i => by_cases hk : e.kind = .edge <;> simp [hk]
  | record j => simp; rfl
  | responder => simp
  | beacon => by_cases hk : e.kind = .join <;> simp [hk, Beacon.told]

/-- An admissible demand comes in alone. -/
theorem admission_one {s : State} {e : TxEntry} (h : s.Admissible e) : Admission s (s.admitOne e) [e] := by
  rw [admitOne_of_admissible h]
  refine ⟨fun i => ?_, fun j => ?_, ?_, ?_, ?_, ?_, ?_⟩
  · simp only [List.any_cons, List.any_nil, Bool.or_false]
    exact tellAdmitted_source (s.setTx (admitEntry e s.tx)) e i
  · simp only [List.any_cons, List.any_nil, Bool.or_false]
    exact tellAdmitted_slot (s.setTx (admitEntry e s.tx)) e j
  · simp only [List.any_cons, List.any_nil, Bool.or_false]
    exact tellAdmitted_reply (s.setTx (admitEntry e s.tx)) e
  · simp only [List.any_cons, List.any_nil, Bool.or_false]
    exact tellAdmitted_beacon (s.setTx (admitEntry e s.tx)) e
  · rw [tellAdmitted_tx]
    exact admitEntry_perm e s.tx
  · rw [tellAdmitted_tx]
    exact admitEntry_sublist e s.tx
  · rw [tellAdmitted_bus]
    rfl

/-! ## Which demands come in -/

/-- The arbiter takes the demand `e`. -/
def State.takes (s : State) (e : TxEntry) : Bool :=
  s.tx.length < 8 && s.bus.station.admits e.kind && !hasEntry e.producer s.tx

theorem takes_iff {s : State} {e : TxEntry} : s.takes e = true ↔ s.Admissible e := by
  simp only [State.takes, Bool.and_eq_true, decide_eq_true_eq, Bool.not_eq_true', hasEntry_eq_false_iff, State.Admissible,
    and_assoc]

/-- The demands that come in, of a list of demands taken in order. -/
def admittedOf : List TxEntry → State → List TxEntry
  | [], _ => []
  | e :: l, s => if s.takes e then e :: admittedOf l (s.admitOne e) else admittedOf l s

theorem admittedOf_cons_of_takes {s : State} {e : TxEntry} {l : List TxEntry} (h : s.Admissible e) :
    admittedOf (e :: l) s = e :: admittedOf l (s.admitOne e) := if_pos (takes_iff.2 h)

theorem admittedOf_cons_of_not {s : State} {e : TxEntry} {l : List TxEntry} (h : ¬s.Admissible e) :
    admittedOf (e :: l) s = admittedOf l s := if_neg (mt takes_iff.1 h)

theorem admission_fold (l : List TxEntry) (s : State) : Admission s (l.foldl State.admitOne s) (admittedOf l s) := by
  induction l generalizing s with
  | nil => exact .refl s
  | cons e l ih =>
    rw [List.foldl_cons]
    by_cases h : s.Admissible e
    · rw [admittedOf_cons_of_takes h]
      exact (admission_one h).cons (ih _)
    · rw [admittedOf_cons_of_not h, admitOne_of_not h]
      exact ih s

theorem admittedOf_sublist (l : List TxEntry) (s : State) : (admittedOf l s).Sublist l := by
  induction l generalizing s with
  | nil => exact .refl _
  | cons e l ih =>
    rw [admittedOf]
    split
    · exact (ih _).cons_cons _
    · exact (ih s).cons _

/-- What `admission` means for the station: what comes in, of its demands. -/
def State.admitted (s : State) : List TxEntry := admittedOf s.demands s

theorem admission (s : State) : Admission s s.admitOwed s.admitted := admission_fold s.demands s

theorem mem_admitted {s : State} {e : TxEntry} (h : e ∈ s.admitted) : ∃ n, OwedAt s e n :=
  mem_demands.1 ((admittedOf_sublist _ _).subset h)

theorem admitOne_length_le {s : State} {e : TxEntry} (h : s.tx.length ≤ 8) : (s.admitOne e).tx.length ≤ 8 := by
  by_cases ha : s.Admissible e
  · rw [admitOne_of_admissible ha, tellAdmitted_tx, State.setTx_tx, admitEntry_length]
    exact ha.1
  · rwa [admitOne_of_not ha]

theorem fold_length_le (l : List TxEntry) {s : State} (h : s.tx.length ≤ 8) : (l.foldl State.admitOne s).tx.length ≤ 8 := by
  induction l generalizing s with
  | nil => exact h
  | cons e l ih => exact ih (admitOne_length_le h)

/-- A full list takes nothing. -/
theorem admittedOf_full (l : List TxEntry) {s : State} (h : 8 ≤ s.tx.length) : admittedOf l s = [] := by
  induction l with
  | nil => rfl
  | cons e l ih => rw [admittedOf_cons_of_not fun ha => absurd ha.1 (by omega), ih]

/-- A demand that stays out of the list finds it full, its kind not admitted, or its producer in it. -/
theorem owed_or_left_out (l : List TxEntry) (s : State) {e : TxEntry} (h : e ∈ l) (ha : s.bus.station.admits e.kind = true) :
    8 ≤ (l.foldl State.admitOne s).tx.length ∨ ∃ f ∈ (l.foldl State.admitOne s).tx, f.producer = e.producer := by
  induction l generalizing s with
  | nil => cases h
  | cons d l ih =>
    rw [List.foldl_cons]
    rcases List.mem_cons.1 h with rfl | h
    · have hrest := admission_fold l (s.admitOne e)
      by_cases hd : s.Admissible e
      · have hin : e ∈ (s.admitOne e).tx := ((admission_one hd).perm.mem_iff).2 (by simp)
        exact .inr ⟨e, hrest.sublist.subset hin, rfl⟩
      · rw [admitOne_of_not hd] at hrest ⊢
        by_cases hlen : s.tx.length < 8
        · have hex : ∃ f ∈ s.tx, f.producer = e.producer := by
            by_contra hno
            exact hd ⟨hlen, ha, fun f hf hp => hno ⟨f, hf, hp⟩⟩
          obtain ⟨f, hf, hp⟩ := hex
          exact .inr ⟨f, hrest.sublist.subset hf, hp⟩
        · have := hrest.sublist.length_le
          exact .inl (by omega)
    · refine ih (s.admitOne d) h ?_
      by_cases hd : s.Admissible d
      · rwa [(admission_one hd).bus]
      · rwa [admitOne_of_not hd]

/-- A demand that stays out while a later one comes in has an entry of its producer before it. -/
theorem left_out_before (l l' : List TxEntry) (s : State) {e e' : TxEntry} (hn : (l ++ e :: l').Nodup)
    (ha : s.bus.station.admits e.kind = true) (he : e ∉ admittedOf (l ++ e :: l') s) (he' : e' ∈ l')
    (hin : e' ∈ admittedOf (l ++ e :: l') s) : ∃ f, (f ∈ s.tx ∨ f ∈ l) ∧ f.producer = e.producer := by
  induction l generalizing s with
  | nil =>
    by_cases hd : s.Admissible e
    · exact absurd (by rw [List.nil_append, admittedOf_cons_of_takes hd]; simp) he
    · by_cases hlen : s.tx.length < 8
      · by_contra hno
        refine hd ⟨hlen, ha, fun f hf hp => hno ⟨f, .inl hf, hp⟩⟩
      · rw [List.nil_append, admittedOf_full _ (by omega)] at hin
        cases hin
  | cons d l ih =>
    obtain ⟨hd', hn'⟩ := List.nodup_cons.1 hn
    rw [List.cons_append] at he hin
    by_cases hd : s.Admissible d
    · rw [admittedOf_cons_of_takes hd] at he hin
      have hne : e' ≠ d := fun h => hd' (h ▸ by simp [he'])
      obtain ⟨f, hf, hp⟩ := ih (s.admitOne d) hn' (by rwa [(admission_one hd).bus])
        (fun h => he (List.mem_cons_of_mem _ h)) ((List.mem_cons.1 hin).resolve_left hne)
      refine ⟨f, ?_, hp⟩
      rcases hf with hf | hf
      · rcases List.mem_cons.1 (((admission_one hd).perm.mem_iff).1 hf) with rfl | hf
        · exact .inr (by simp)
        · exact .inl (by simpa using hf)
      · exact .inr (by simp [hf])
    · rw [admittedOf_cons_of_not hd] at he hin
      obtain ⟨f, hf, hp⟩ := ih s hn' ha he hin
      exact ⟨f, hf.imp_right fun h => by simp [h], hp⟩

end Sys2Proof.Machine
end

section
/-! PROOF. Admission and the start of a contention, in the words of the obligations (R128–R132). -/

namespace Sys2Proof.Machine

/-! ## What is owed, by its producer -/

theorem OwedAt.record {s : State} {e : TxEntry} {n : Nat} {j : Fin 8} (h : OwedAt s e n) (he : e.isOf (.record j) = true) :
    OwesRelease s e j := by
  have hp : e.producer = .record j := by simpa [TxEntry.isOf] using he
  rcases h with ⟨i, _, h⟩ | ⟨i, _, _, ⟨_, h⟩ | ⟨_, h⟩⟩ | ⟨_, _, h⟩ | ⟨i, _, _, h⟩ | ⟨_, _, h⟩ | ⟨_, _, h⟩
  · obtain ⟨r, _, _, ho⟩ := id h
    have hij := ho.2.2.2.2.symm.trans hp
    cases hij
    exact h
  all_goals cases h.2.2.2.2.symm.trans hp

theorem OwedAt.edge {s : State} {e : TxEntry} {n : Nat} {i : Fin 16} (h : OwedAt s e n) (he : e.isEdgeOf i = true) :
    OwesEdge s e i := by
  obtain ⟨hk, hp⟩ : e.kind = .edge ∧ e.producer = .source i := by simpa [TxEntry.isEdgeOf] using he
  rcases h with ⟨j, _, r, _, _, h⟩ | ⟨j, _, _, ⟨_, h⟩ | ⟨_, h⟩⟩ | ⟨_, _, h⟩ | ⟨j, _, h⟩ | ⟨_, _, h⟩ | ⟨_, _, h⟩
  · cases h.2.1.symm.trans hk
  · cases h.2.1.symm.trans hk
  · cases h.2.1.symm.trans hk
  · cases h.2.1.symm.trans hk
  · have hij := h.2.2.2.2.2.symm.trans hp
    cases hij
    exact h
  · cases h.2.1.symm.trans hk
  · cases h.2.1.symm.trans hk

theorem OwedAt.report {s : State} {e : TxEntry} {n : Nat} (h : OwedAt s e n) (he : e.isOf .responder = true) :
    OwesReport s e := by
  have hp : e.producer = .responder := by simpa [TxEntry.isOf] using he
  rcases h with ⟨j, _, r, _, _, h⟩ | ⟨j, _, _, ⟨_, h⟩ | ⟨_, h⟩⟩ | ⟨_, _, h⟩ | ⟨j, _, _, h⟩ | ⟨_, h⟩ | ⟨_, _, h⟩
  · cases h.2.2.2.2.symm.trans hp
  · cases h.2.2.2.2.symm.trans hp
  · cases h.2.2.2.2.symm.trans hp
  · cases h.2.2.2.2.symm.trans hp
  · cases h.2.2.2.2.symm.trans hp
  · exact h
  · cases h.2.2.2.2.symm.trans hp

theorem OwedAt.join {s : State} {e : TxEntry} {n : Nat} (h : OwedAt s e n) (hk : e.kind = .join) : OwesJoin s e := by
  rcases h with ⟨j, _, r, _, _, h⟩ | ⟨j, _, _, ⟨_, h⟩ | ⟨_, h⟩⟩ | ⟨_, h⟩ | ⟨j, _, _, h⟩ | ⟨_, _, h⟩ | ⟨_, _, h⟩
  · cases h.2.1.symm.trans hk
  · cases h.2.1.symm.trans hk
  · cases h.2.1.symm.trans hk
  · exact h
  · cases h.2.1.symm.trans hk
  · cases h.2.1.symm.trans hk
  · cases h.2.1.symm.trans hk

/-! ## The start of a contention (R132) -/

/-- With the head of a list ON-BUS, and the bus interface contending for it. -/
def State.contending (s : State) (h : TxEntry) (rest : List TxEntry) : State :=
  { s with
    tx := { h with onBus := true } :: rest
    bus := { s.bus with activity := .contending s.bus.standing, phase := .receiving, stopped := false } }

theorem offerHead_of_waiting {s : State} {h : TxEntry} {rest : List TxEntry} (ht : s.tx = h :: rest)
    (hc : s.bus.station.contends = true) (hw : h.onBus = false) (hact : s.bus.activity = .idle) :
    s.offerHead = s.contending h rest := by
  simp only [State.offerHead, ht, hc, hw, hact]
  rfl

theorem offerHead_cases (s : State) : s.offerHead = s ∨ ∃ h rest, s.tx = h :: rest ∧ s.bus.station.contends = true ∧
    h.onBus = false ∧ s.bus.activity = .idle ∧ s.offerHead = s.contending h rest := by
  cases ht : s.tx with
  | nil => exact .inl (offerHead_nil ht)
  | cons h rest =>
    by_cases hc : s.bus.station.contends = true ∧ h.onBus = false ∧ s.bus.activity = .idle
    · obtain ⟨h1, h2, h3⟩ := hc
      exact .inr ⟨h, rest, rfl, h1, h2, h3, offerHead_of_waiting ht h1 h2 h3⟩
    · refine .inl ?_
      have hb : (s.bus.station.contends && !h.onBus && decide (s.bus.activity = .idle)) = false := by
        rw [Bool.eq_false_iff]
        intro hb
        simp only [Bool.and_eq_true, Bool.not_eq_true', decide_eq_true_eq] at hb
        exact hc ⟨hb.1.1, hb.1.2, hb.2⟩
      simp only [State.offerHead, ht, hb, Bool.false_eq_true, if_false]

/-- Admission, and then a contention for a WAITING head or nothing more. -/
theorem settle_cases (s : State) : s.settle = s.admitOwed ∨ ∃ h rest, s.admitOwed.tx = h :: rest ∧
    s.bus.station.contends = true ∧ h.onBus = false ∧ s.bus.activity = .idle ∧ s.bus.phase = .busIdle ∧
    s.settle = s.admitOwed.contending h rest := by
  have hbus := (admission s).bus
  unfold State.settle State.offerIfIdle
  rw [hbus]
  split
  · next hph =>
    rcases offerHead_cases s.admitOwed with h | ⟨h, rest, ht, hc, hw, hact, heq⟩
    · exact .inl h
    · rw [hbus] at hc hact
      exact .inr ⟨h, rest, ht, hc, hw, hact, hph, heq⟩
  · exact .inl rfl

/-- A contention leaves everything that is not the list or the bus interface. -/
theorem settle_admission (s : State) : (∀ i, s.settle.source i = s.admitOwed.source i) ∧
    (∀ j, s.settle.slot j = s.admitOwed.slot j) ∧ s.settle.reply = s.admitOwed.reply ∧
    s.settle.beacon = s.admitOwed.beacon := by
  rcases settle_cases s with h | ⟨_, _, _, _, _, _, _, h⟩ <;> rw [h] <;> exact ⟨fun _ => rfl, fun _ => rfl, rfl, rfl⟩

/-- A source entry after admission (R13). -/
theorem settle_source (s : State) (i : Fin 16) : s.settle.source i = s.source i ∨
    ((s.source i).edgeState = .owed ∧ s.settle.source i = { s.source i with edgeState := .listed }) := by
  rw [(settle_admission s).1, (admission s).source]
  split
  · next h =>
    obtain ⟨e, he, hi⟩ := List.any_eq_true.1 h
    obtain ⟨n, hn⟩ := mem_admitted he
    exact .inr ⟨(hn.edge hi).1, rfl⟩
  · exact .inl rfl

/-- Settles O33, from what admission tells the producers. -/
theorem admissionLeavesTheRest : Obligations.AdmissionLeavesTheRest := by
  intro s
  obtain ⟨src, l, r, rp, bc, act, ph, st, heq⟩ := settle_side s
  have hadm := admission s
  obtain ⟨hsource, hslot, hreply, hbeacon⟩ := settle_admission s
  have hsrc : ∀ i, s.settle.source i = look src i := fun i => by rw [heq]; rfl
  have hr : ∀ j, s.settle.slot j = look r j := fun j => by rw [heq]; rfl
  have hrp : s.settle.reply = rp := by rw [heq]
  have hbc : s.settle.beacon = bc := by rw [heq]
  have hl : s.settle.tx = l := by rw [heq]
  have hbus : s.settle.bus = { s.bus with activity := act, phase := ph, stopped := st } := by rw [heq]
  refine ⟨src, l, r, rp, bc, act, ph, st, heq, fun i => hsrc i ▸ settle_source s i, fun j => ?_, ?_, ?_, ?_, ?_, ?_, ?_, ?_,
    s.admitOwed.tx, hadm.sublist, fun e he => ?_, ?_⟩
  · rw [← hr, hslot, hadm.slot]
    split
    · next h =>
      obtain ⟨e, he, hj⟩ := List.any_eq_true.1 h
      obtain ⟨n, hn⟩ := mem_admitted he
      obtain ⟨q, hq, hst, _⟩ := hn.record hj
      exact .inr ⟨q, hq, hst, by rw [Option.mem_def.1 hq]; rfl⟩
    · exact .inl rfl
  · rw [← hrp, hreply, hadm.reply]
    split
    · next h =>
      obtain ⟨e, he, hj⟩ := List.any_eq_true.1 h
      obtain ⟨n, hn⟩ := mem_admitted he
      obtain ⟨⟨q, hq, hst⟩, _⟩ := hn.report hj
      exact .inr ⟨q, hq, hst, by rw [Option.mem_def.1 hq]; rfl⟩
    · exact .inl rfl
  · rw [← hbc, hbeacon, hadm.beacon]; rfl
  · rw [← hbc, hbeacon, hadm.beacon]; rfl
  · rw [← hbc, hbeacon, hadm.beacon]
    exact fun h => (Bool.and_eq_true _ _ ▸ h : _ ∧ _).1
  · rw [← hbc, hbeacon, hadm.beacon]
    exact fun h => (Bool.and_eq_true _ _ ▸ h : _ ∧ _).1
  · intro e he
    have hmem := hadm.sublist.subset he
    rw [← hl]
    rcases settle_cases s with h | ⟨x, rest, hx, _, _, _, _, h⟩
    · exact ⟨e, h ▸ hmem, rfl⟩
    · rw [hx] at hmem
      rcases List.mem_cons.1 hmem with rfl | hmem
      · exact ⟨{ e with onBus := true }, by rw [h]; exact List.mem_cons_self, rfl⟩
      · exact ⟨e, by rw [h]; exact List.mem_cons_of_mem _ hmem, rfl⟩
  · rcases settle_cases s with h | ⟨x, rest, _, _, _, hact, hph, h⟩ <;> rw [h] at hbus
    · refine .inl ?_
      rw [hadm.bus] at hbus
      exact ⟨(congrArg BusInterface.activity hbus).symm, (congrArg BusInterface.phase hbus).symm,
        (congrArg BusInterface.stopped hbus).symm⟩
    · refine .inr ⟨hact, hph, ?_, (congrArg BusInterface.phase hbus).symm, (congrArg BusInterface.stopped hbus).symm⟩
      rw [← hadm.bus]
      exact (congrArg BusInterface.activity hbus).symm
  · rcases List.mem_append.1 (hadm.perm.mem_iff.1 he) with he | he
    · obtain ⟨n, hn⟩ := mem_admitted he
      exact .inr hn.place_eq.2
    · exact .inl he
  · rcases settle_cases s with h | ⟨x, rest, hx, _, hw, _, _, h⟩ <;> rw [h] at hbus hl
    · refine .inl ⟨hl.symm, ?_⟩
      rw [hadm.bus] at hbus
      exact (congrArg BusInterface.activity hbus).symm
    · refine .inr ⟨x, rest, hx, hw, hl.symm, ?_⟩
      rw [← hadm.bus]
      exact (congrArg BusInterface.activity hbus).symm

end Sys2Proof.Machine
end

section
/-! PROOF. What admission fills the list with (R129, R130, R132, R141). -/

namespace Sys2Proof.Machine

theorem demands_nodup (s : State) : s.demands.Nodup := (demands_ascend s).1.imp fun h heq => by simp [heq] at h

theorem mem_admitted_admits {l : List TxEntry} {s : State} {e : TxEntry} (h : e ∈ admittedOf l s) :
    s.bus.station.admits e.kind = true := by
  induction l generalizing s with
  | nil => cases h
  | cons d l ih =>
    by_cases hd : s.Admissible d
    · rw [admittedOf_cons_of_takes hd] at h
      rcases List.mem_cons.1 h with rfl | h
      · exact hd.2.1
      · have := ih h
        rwa [(admission_one hd).bus] at this
    · rw [admittedOf_cons_of_not hd] at h
      exact ih h

/-- The list after admission, with what the start of a contention does to its head. -/
theorem settle_tx (s : State) : s.settle.tx = s.admitOwed.tx ∨
    ∃ h rest, s.admitOwed.tx = h :: rest ∧ h.onBus = false ∧ s.settle.tx = { h with onBus := true } :: rest := by
  rcases settle_cases s with h | ⟨x, rest, hx, _, hw, _, _, h⟩
  · exact .inl (by rw [h])
  · exact .inr ⟨x, rest, hx, hw, by rw [h]; rfl⟩

theorem settle_length (s : State) : s.settle.tx.length = s.admitOwed.tx.length := by
  rcases settle_tx s with h | ⟨x, rest, hx, _, h⟩
  · rw [h]
  · rw [h, hx]
    rfl

/-- An entry of the list after admission is still there, or is the head that contends. -/
theorem mem_settle_of_mem {s : State} {e : TxEntry} (h : e ∈ s.admitOwed.tx) :
    e ∈ s.settle.tx ∨ s.settle.tx.head? = some { e with onBus := true } := by
  rcases settle_tx s with heq | ⟨x, rest, hx, _, heq⟩
  · exact .inl (heq ▸ h)
  · rw [hx] at h
    rw [heq]
    rcases List.mem_cons.1 h with rfl | h
    · exact .inr rfl
    · exact .inl (List.mem_cons_of_mem _ h)

theorem mem_of_mem_settle {s : State} {f : TxEntry} (h : f ∈ s.settle.tx) :
    ∃ e ∈ s.admitOwed.tx, f = e ∨ f = { e with onBus := true } := by
  rcases settle_tx s with heq | ⟨x, rest, hx, _, heq⟩
  · exact ⟨f, heq ▸ h, .inl rfl⟩
  · rw [heq] at h
    rw [hx]
    rcases List.mem_cons.1 h with rfl | h
    · exact ⟨x, List.mem_cons_self, .inr rfl⟩
    · exact ⟨f, List.mem_cons_of_mem _ h, .inl rfl⟩

theorem mem_admitOwed {s : State} {e : TxEntry} : e ∈ s.admitOwed.tx ↔ e ∈ s.admitted ∨ e ∈ s.tx := by
  rw [(admission s).perm.mem_iff, List.mem_append]

/-- A frame owed that stands in the list after admission, and before it no entry of its producer, has come in. -/
theorem mem_admitted_of_admittedBy {s : State} {e : TxEntry} (h : AdmittedBy s s.settle e) (hu : e.onBus = false) :
    e ∈ s.admitted := by
  obtain ⟨hno, hin⟩ := h
  have hmem : e ∈ s.admitOwed.tx → e ∈ s.admitted := fun h => (mem_admitOwed.1 h).resolve_right fun hf => hno e hf rfl
  rcases settle_tx s with heq | ⟨x, rest, hx, hw, heq⟩
  · rw [heq] at hin
    rcases hin with hin | hin
    · exact hmem hin
    · have hf := List.mem_of_mem_head? hin
      rcases mem_admitOwed.1 hf with hf | hf
      · obtain ⟨n, hn⟩ := mem_admitted hf
        cases hn.place_eq.2.1
      · exact absurd rfl (hno { e with onBus := true } hf)
  · rw [heq] at hin
    refine hmem ?_
    rw [hx]
    rcases hin with hin | hin
    · rcases List.mem_cons.1 hin with rfl | hin
      · cases hu
      · exact List.mem_cons_of_mem _ hin
    · have hxe : x = e := by
        have h1 : ({ x with onBus := true } : TxEntry) = { e with onBus := true } := Option.some_inj.1 hin
        cases x
        cases e
        simp_all
      rw [hxe]
      exact List.mem_cons_self

theorem admittedBy_of_mem {s : State} {e : TxEntry} (h : e ∈ s.admitted) (hno : ∀ f ∈ s.tx, f.producer ≠ e.producer) :
    AdmittedBy s s.settle e := ⟨hno, mem_settle_of_mem (mem_admitOwed.2 (.inl h))⟩

theorem OwedAt.hold {s : State} {e : TxEntry} {n : Nat} {i : Fin 16} (h : OwedAt s e n) (hp : e.producer = .source i)
    (hk : e.kind ≠ .edge) : (s.source i).isHold = true := by
  rcases h with ⟨j, _, r, _, _, h⟩ | ⟨j, _, hh, h⟩ | ⟨_, _, h⟩ | ⟨j, _, _, h⟩ | ⟨_, _, h⟩ | ⟨_, _, h⟩
  · cases h.2.2.2.2.symm.trans hp
  · have hj : e.producer = .source j := h.elim (fun h => h.2.2.2.2.2) (fun h => h.2.2.2.2.2)
    cases hj.symm.trans hp
    exact hh
  · cases h.2.2.2.2.symm.trans hp
  · exact absurd h.2.1 hk
  · cases h.2.2.2.2.symm.trans hp
  · cases h.2.2.2.2.symm.trans hp

/-- Two frames owed by one producer are the JOIN and the PRESENCE of the beacon. -/
theorem place_of_same_producer {s : State} {d e : TxEntry} {m n : Nat}
    (hhold : ∀ i : Fin 16, (s.source i).isHold = true → (s.source i).edgeState = .idle) (hd : OwedAt s d m)
    (he : OwedAt s e n) (hp : d.producer = e.producer) (hlt : d.place < e.place) : e.place = 42 := by
  unfold TxEntry.place at *
  rw [hp] at hlt
  cases hpe : e.producer with
  | record j => simp [hpe] at hlt
  | responder => simp [hpe] at hlt
  | source i =>
    by_cases hk : e.kind = .edge
    · by_cases hkd : d.kind = .edge
      · simp [hpe, hk, hkd] at hlt
      · have hidle := hhold i (hd.hold (hp.trans hpe) hkd)
        have howed := (he.edge (i := i) (by simp [TxEntry.isEdgeOf, hk, hpe])).1
        rw [hidle] at howed
        cases howed
    · have hidle := hhold i (he.hold hpe hk)
      by_cases hkd : d.kind = .edge
      · have howed := (hd.edge (i := i) (by simp [TxEntry.isEdgeOf, hkd, hp.trans hpe])).1
        rw [hidle] at howed
        cases howed
      · simp [hpe, hk, hkd] at hlt
  | beacon =>
    by_cases hk : e.kind = .join
    · by_cases hkd : d.kind = .join <;> simp [hpe, hk, hkd] at hlt
    · simp [hk]

/-- In JOINED an earlier frame owed comes in when a later one does, unless its producer had an entry (R129, R130). -/
theorem earlier_admitted {s : State} (hj : s.bus.station = .joined)
    (hhold : ∀ i : Fin 16, (s.source i).isHold = true → (s.source i).edgeState = .idle) {e e' : TxEntry} {n n' : Nat}
    (he : OwedAt s e n) (he' : OwedAt s e' n') (hlt : n < n') (hin : e' ∈ s.admitted)
    (hno : ∀ f ∈ s.tx, f.producer ≠ e.producer) : e ∈ s.admitted := by
  by_contra hout
  have hplace := he.place_eq.1
  have hplace' := he'.place_eq.1
  obtain ⟨l, l', hsplit⟩ := List.append_of_mem (mem_demands.2 ⟨n, he⟩)
  have hasc := demands_ascend s
  have hmem' : e' ∈ s.demands := mem_demands.2 ⟨n', he'⟩
  have hlate : e' ∈ l' := by
    rw [hsplit] at hmem'
    rcases List.mem_append.1 hmem' with h | h
    · have hp := hasc.1
      rw [hsplit] at hp
      have := (List.pairwise_append.1 hp).2.2 e' h e (by simp)
      omega
    · rcases List.mem_cons.1 h with rfl | h
      · omega
      · exact h
  have hnodup := demands_nodup s
  unfold State.admitted at hin hout
  rw [hsplit] at hin hout hnodup
  obtain ⟨f, hf, hp⟩ := left_out_before l l' s hnodup (by rw [hj]; rfl) hout hlate hin
  rcases hf with hf | hf
  · exact hno f hf hp
  · obtain ⟨m, hm⟩ := mem_demands.1 (by rw [hsplit]; exact List.mem_append_left _ hf : f ∈ s.demands)
    have hp' := hasc.1
    rw [hsplit] at hp'
    have hfe := (List.pairwise_append.1 hp').2.2 f hf e (by simp)
    have h42 := place_of_same_producer hhold hm he hp hfe
    have := (hasc.2 e' (mem_demands.2 ⟨n', he'⟩)).2
    omega

/-- In JOINING the one frame that comes in is the JOIN owed (R130, R141). -/
theorem admitted_joining {s : State} (hj : s.bus.station = .joining) {e : TxEntry} (h : e ∈ s.admitted) : OwesJoin s e := by
  obtain ⟨n, hn⟩ := mem_admitted h
  have hk := mem_admitted_admits h
  rw [hj] at hk
  exact hn.join (by simpa [StationState.admits] using hk)

theorem owesJoin_unique {s : State} {d e : TxEntry} (hd : OwesJoin s d) (he : OwesJoin s e) : d = e :=
  (offers_iff.1 hd.2).trans (offers_iff.1 he.2).symm

theorem admitted_of_owesJoin {s : State} (hj : s.bus.station = .joining) (ht : s.tx = []) {e : TxEntry} (he : OwesJoin s e) :
    s.admitted = [e] := by
  have hall : ∀ d ∈ s.admitted, d = e := fun d hd => owesJoin_unique (admitted_joining hj hd) he
  have hmem : e ∈ s.demands := mem_demands.2 ⟨24, .inr (.inr (.inl ⟨rfl, he⟩))⟩
  have hne : s.admitted ≠ [] := by
    intro hnil
    have hperm := (admission s).perm
    rw [hnil, ht, List.append_nil] at hperm
    have hnil' : s.demands.foldl State.admitOne s = s.admitOwed := rfl
    have hk : e.kind = .join := he.2.2.1
    rcases owed_or_left_out s.demands s hmem (by rw [hj, hk]; rfl) with h | ⟨f, hf, _⟩
    · rw [hnil', hperm.eq_nil] at h
      simp at h
    · rw [hnil', hperm.eq_nil] at hf
      cases hf
  have hnodup : s.admitted.Nodup := (admittedOf_sublist _ _).nodup (demands_nodup s)
  cases hadm : s.admitted with
  | nil => exact absurd hadm hne
  | cons d l =>
    rw [hadm] at hall hnodup
    cases l with
    | nil => rw [hall d (by simp)]
    | cons d' l => exact absurd (by rw [hall d (by simp), hall d' (by simp)]; simp) (List.nodup_cons.1 hnodup).1

theorem settle_of_not_admitting {s : State} (h1 : s.bus.station ≠ .joining) (h2 : s.bus.station ≠ .joined) : s.settle = s := by
  rcases settle_cases s with h | ⟨_, _, _, hc, _⟩
  · rw [h, admitOwed_eq_self h1 h2]
  · simp [StationState.contends, h1, h2] at hc

/-- The list in JOINING after the admission of the JOIN into an empty list. -/
theorem settle_tx_join {s : State} (hj : s.bus.station = .joining) (ht : s.tx = []) {e : TxEntry} (he : OwesJoin s e) :
    s.settle.tx = [{ e with onBus := decide (s.bus.phase = .busIdle ∧ s.bus.activity = .idle) }] := by
  have hperm := (admission s).perm
  rw [admitted_of_owesJoin hj ht he, ht, List.append_nil] at hperm
  have htx : s.admitOwed.tx = [e] := List.perm_singleton.1 hperm
  have hwait : e.onBus = false := he.2.1.1
  have hbus := (admission s).bus
  have hc : s.bus.station.contends = true := by rw [hj]; rfl
  by_cases hidle : s.bus.phase = .busIdle ∧ s.bus.activity = .idle
  · have hoffer := offerHead_of_waiting htx (by rw [hbus]; exact hc) hwait (by rw [hbus]; exact hidle.2)
    have hsettle : s.settle = s.admitOwed.offerHead := by
      unfold State.settle State.offerIfIdle
      rw [hbus, if_pos hidle.1]
    rw [hsettle, hoffer, decide_eq_true hidle]
    rfl
  · rcases settle_cases s with h | ⟨_, _, _, _, _, hact, hph, _⟩
    · rw [h, htx, decide_eq_false hidle, ← hwait]
    · exact absurd ⟨hph, hact⟩ hidle

/-- Settles O34, from which demands come in. -/
theorem admissionFillsTheList : Obligations.AdmissionFillsTheList := by
  intro s hlen hhold
  have hlen' : s.settle.tx.length ≤ 8 := by
    rw [settle_length]
    exact fold_length_le s.demands hlen
  refine ⟨hlen', fun hj => ⟨fun e n he => ?_, fun e n e' n' he he' hlt hin => ?_, fun f hf hno => ?_⟩,
    fun hj ht => ⟨fun hb => ?_, fun e he => ⟨?_, settle_tx_join hj ht he⟩⟩, settle_of_not_admitting, fun e hin => ?_⟩
  · rcases owed_or_left_out s.demands s (mem_demands.2 ⟨n, he⟩) (by rw [hj]; rfl) with h | ⟨f, hf, hp⟩
    · refine .inl (le_antisymm hlen' ?_)
      rw [settle_length]
      exact h
    · rcases mem_settle_of_mem hf with hf | hf
      · exact .inr ⟨f, hf, hp⟩
      · exact .inr ⟨_, List.mem_of_mem_head? hf, hp⟩
  · by_cases hno : ∃ f ∈ s.tx, f.producer = e.producer
    · exact .inl hno
    · have hno' : ∀ f ∈ s.tx, f.producer ≠ e.producer := fun f hf hp => hno ⟨f, hf, hp⟩
      have hin' := mem_admitted_of_admittedBy hin he'.place_eq.2.1
      exact .inr (admittedBy_of_mem (earlier_admitted hj hhold he he' hlt hin' hno') hno')
  · obtain ⟨e, he, hfe⟩ := mem_of_mem_settle hf
    rcases mem_admitOwed.1 he with he | he
    · obtain ⟨n, hn⟩ := mem_admitted he
      exact ⟨e, n, hn, hfe⟩
    · have hprod : e.producer = f.producer := by rcases hfe with rfl | rfl <;> rfl
      exact absurd hprod (hno e he)
  · have hnil : s.admitted = [] := List.eq_nil_iff_forall_not_mem.2 fun e he => by
      have := (admitted_joining hj he).1
      rw [hb] at this
      cases this
    have hperm := (admission s).perm
    rw [hnil, ht, List.append_nil] at hperm
    have hlen0 := settle_length s
    rw [hperm.eq_nil] at hlen0
    exact List.length_eq_zero_iff.1 hlen0
  · rw [(settle_admission s).2.2.2, (admission s).beacon, admitted_of_owesJoin hj ht he]
    have hjoin : e.isJoin = true := by simp [TxEntry.isJoin, he.2.2.1, he.2.2.2.2.2]
    simp [Beacon.told, hjoin]
  · have hany : ∀ (p : TxEntry → Bool), e.Unsent → p e = true → s.admitted.any p = true := fun p hu hp =>
      List.any_eq_true.2 ⟨e, mem_admitted_of_admittedBy hin hu.1, hp⟩
    have hadm := admission s
    obtain ⟨hsource, hslot, hreply, hbeacon⟩ := settle_admission s
    refine ⟨fun j ⟨_, _, _, ho⟩ => ?_, fun i ⟨_, ho⟩ => ?_, fun ⟨_, ho⟩ => ?_, fun ⟨_, ho⟩ => ?_, fun ⟨_, ho⟩ => ?_⟩
    · obtain ⟨hu, _, _, _, hp⟩ := ho
      rw [hslot, hadm.slot, if_pos (hany _ hu (by simp [TxEntry.isOf, hp]))]
      rfl
    · obtain ⟨hu, hk, _, _, hp⟩ := ho
      rw [hsource, hadm.source, if_pos (hany _ hu (by simp [TxEntry.isEdgeOf, hk, hp]))]
      rfl
    · obtain ⟨hu, _, _, _, hp⟩ := ho
      rw [hreply, hadm.reply, if_pos (hany _ hu (by simp [TxEntry.isOf, hp]))]
      rfl
    · obtain ⟨hu, hk, _, _, hp⟩ := ho
      rw [hbeacon, hadm.beacon, hany TxEntry.isJoin hu (by simp [TxEntry.isJoin, hk, hp])]
      simp [Beacon.told]
    · obtain ⟨hu, hk, _, _, hp⟩ := ho
      rw [hbeacon, hadm.beacon, hany TxEntry.isPresence hu (by simp [TxEntry.isPresence, hk, hp])]
      simp [Beacon.told]

end Sys2Proof.Machine
end

section
/-! PROOF. The bus events: the idle bus, a lost contention, the end of an attempt, a retry, the restart and the hold-off
(R114, R128, R131, R132, R134, R135, R137–R142, R172, R185). -/

namespace Sys2Proof.Machine

/-! ## The idle bus (R114, R132) -/

theorem contends_iff (st : StationState) : st.contends = true ↔ st = .joining ∨ st = .joined := by
  simp [StationState.contends]

theorem offerHead_of_silent {s : State}
    (h : (s.bus.station ≠ .joining ∧ s.bus.station ≠ .joined) ∨ s.tx = []) : s.offerHead = s := by
  rcases offerHead_cases s with heq | ⟨x, rest, ht, hc, _⟩
  · exact heq
  · rcases h with ⟨h1, h2⟩ | h
    · rcases (contends_iff _).1 hc with hc | hc
      · exact absurd hc h1
      · exact absurd hc h2
    · rw [h] at ht
      cases ht

/-- Settles O35, by the receive phase and the head. -/
theorem idleBusOffersTheWaitingHead : Obligations.IdleBusOffersTheWaitingHead := by
  intro s hoff hact
  refine ⟨fun hph => ?_, fun hph => ?_⟩
  · have hexec : exec .busIdle s = .next (s.setBus { s.bus with phase := .busIdle }).offerHead := by
      have h : exec .busIdle s = .next (s.setBus { s.bus with phase := .busIdle }).offerIfIdle := if_pos ⟨hoff, hph⟩
      rw [h]
      rfl
    refine ⟨fun h => ?_, fun e rest hst ht hw => ?_⟩
    · rw [hexec, offerHead_of_silent (s := s.setBus { s.bus with phase := .busIdle }) h]
      rfl
    · rw [hexec, offerHead_of_waiting (s := s.setBus { s.bus with phase := .busIdle }) ht ((contends_iff _).2 hst) hw hact]
      rfl
  · have hexec : exec .frameBegins s = .next (s.setBus { s.bus with phase := .receiving, stopped := false }).offerHead :=
      if_pos ⟨hoff, hph⟩
    refine ⟨fun h => ?_, fun e rest hst ht hw => ?_⟩
    · rw [hexec, offerHead_of_silent (s := s.setBus { s.bus with phase := .receiving, stopped := false }) h]
      rfl
    · rw [hexec, offerHead_of_waiting (s := s.setBus { s.bus with phase := .receiving, stopped := false }) ht
        ((contends_iff _).2 hst) hw hact]
      rfl

/-! ## A lost contention (R128, R132, R134) -/

theorem standing_lowered : ∀ x : BitVec 4, x - (if x = 0 then 0 else 1) = if x = 0 then 0 else x - 1 := by decide

/-- Settles O37: the head is given back. -/
theorem lossLowersTheStanding : Obligations.LossLowersTheStanding := by
  intro s st e rest hact ht htx
  have hexec : exec .contentionLost s = .next s.lost.settle := by
    have h : exec .contentionLost s = execContentionLost s := rfl
    rw [h, execContentionLost, hact]
  have hne := producer_ne_of_txSafe htx ht
  have hlost : s.lost = State.headReturned (s.setBus { s.bus with
      activity := .idle, standing := s.bus.standing - (if s.bus.standing = 0 then 0 else 1) }) e rest := by
    unfold State.lost
    rw [ht]
  rw [hexec, hlost, standing_lowered, headReturned_eq_givenBack _ _ _ hne]
  rfl

/-! ## The end of an attempt (R135–R139) -/

/-- The outcome of an attempt that a command reports (R135). -/
def attemptOf : Instr → Option Attempt
  | .attemptConclusion ack nak => some (slotOutcome ack nak)
  | .bitError => some .failedBit
  | _ => none

/-- The station after the steps of R139, but for the restart. -/
def State.concluded (s : State) (c : Instr) (e : TxEntry) (rest : List TxEntry) (a : Attempt) : State :=
  let u := (s.attemptOver c).headConcluded e rest a
  let v := if a ≠ .failedBit ∧ e.selfDelivers then u.selfDeliver e else u
  v.countFailures (failuresAfter s.bus.failures a (!s.anyPresent))

/-- A command that ends an attempt takes the steps of R139. -/
theorem exec_attempt {s : State} {st : BitVec 4} {e : TxEntry} {rest : List TxEntry} {c : Instr} {a : Attempt}
    (hact : s.bus.activity = .attempting st) (ht : s.tx = e :: rest) (hc : attemptOf c = some a) :
    exec c s = .next (if s.restartsAt e a then (s.concluded c e rest a).restart else s.concluded c e rest a) := by
  have hconclude : ∀ (b : BusInterface) (ph : ReceivePhase) (x : Bool),
      b = { s.bus with phase := ph, stopped := x } →
      (s.setBus b).conclude a =
        let u := ((s.setBus { s.bus with activity := .idle, phase := ph, stopped := x }).countAttempt a).headConcluded e rest a
        let v := if a ≠ .failedBit ∧ e.selfDelivers then u.selfDeliver e else u
        let w := v.countFailures (failuresAfter s.bus.failures a (!s.anyPresent))
        if s.restartsAt e a then w.restart else w := by
    rintro _ ph x rfl
    have htx : (s.setBus { s.bus with phase := ph, stopped := x }).tx = e :: rest := ht
    unfold State.conclude
    rw [htx]
    rfl
  cases c with
  | bitError =>
    obtain rfl : .failedBit = a := Option.some_inj.1 hc
    have hexec : exec .bitError s =
        .next ((s.setBus { s.bus with phase := .receiving, stopped := true }).conclude .failedBit) := by
      have h : exec .bitError s = execBitError s := rfl
      rw [h, execBitError, hact]
    rw [hexec, hconclude _ _ _ rfl]
    rfl
  | attemptConclusion ack nak =>
    obtain rfl : slotOutcome ack nak = a := Option.some_inj.1 hc
    have hexec : exec (.attemptConclusion ack nak) s =
        .next ((s.setBus { s.bus with phase := .waitingIdle, stopped := false }).conclude (slotOutcome ack nak)) := by
      have h : exec (.attemptConclusion ack nak) s = execAttemptConclusion ack nak s := rfl
      rw [h, execAttemptConclusion, hact]
    have hover : (s.setBus { s.bus with activity := .idle, phase := .waitingIdle, stopped := false }).countAttempt
        (slotOutcome ack nak) = s.attemptOver (.attemptConclusion ack nak) := by
      cases ack <;> cases nak <;> rfl
    rw [hexec, hconclude _ _ _ rfl, hover]
    rfl
  | _ => cases hc

theorem anyPresent_iff (s : State) : s.anyPresent = true ↔ Heard s := by
  unfold State.anyPresent Heard
  simp only [List.any_eq_true, decide_eq_true_eq]
  constructor
  · rintro ⟨e, he, hp⟩
    obtain ⟨i, hi, rfl⟩ := List.mem_iff_getElem.1 he
    rw [Vector.length_toList] at hi
    exact ⟨⟨i, hi⟩, by simpa [look, Vector.get_eq_getElem] using hp⟩
  · rintro ⟨a, ha⟩
    exact ⟨look s.roster a, by simp [look, Vector.get_eq_getElem], ha⟩

/-! ## A retry (R137, R138) -/

/-- The entries of a producer, marked as self-delivered. -/
def markDelivered (p : Producer) (l : List TxEntry) : List TxEntry :=
  l.map (fun f => if f.producer = p then { f with selfDelivered := true } else f)

theorem markDelivered_of_ne {p : Producer} {l : List TxEntry} (h : ∀ x ∈ l, x.producer ≠ p) : markDelivered p l = l := by
  conv => rhs; rw [← List.map_id l]
  exact List.map_congr_left fun x hx => by simp [h x hx]

theorem takeWhile_ne {p : Producer} {l : List TxEntry} (h : ∀ x ∈ l, x.producer ≠ p) (q : TxEntry → Bool) :
    markDelivered p (l.takeWhile q) = l.takeWhile q ∧ markDelivered p (l.dropWhile q) = l.dropWhile q :=
  ⟨markDelivered_of_ne fun x hx => h x ((List.takeWhile_sublist q).subset hx),
    markDelivered_of_ne fun x hx => h x ((List.dropWhile_sublist q).subset hx)⟩

/-- To mark the entry given back is to give back the entry marked. -/
theorem givenBack_marked {s : State} {e : TxEntry} {rest : List TxEntry} (h : ∀ x ∈ rest, x.producer ≠ e.producer) :
    (s.givenBack e rest).setTx (markDelivered e.producer (s.givenBack e rest).tx) =
      s.givenBack { e with selfDelivered := true } rest := by
  have hrest := markDelivered_of_ne h
  obtain ⟨htake, hdrop⟩ := takeWhile_ne h TxEntry.urgent
  have hone : ∀ f : TxEntry, ∀ l, f.producer = e.producer →
      markDelivered e.producer (f :: l) = { f with selfDelivered := true } :: markDelivered e.producer l := by
    intro f l hf
    simp [markDelivered, hf]
  have happ : ∀ l m, markDelivered e.producer (l ++ m) = markDelivered e.producer l ++ markDelivered e.producer m :=
    fun l m => List.map_append
  have hurgent : ({ e with selfDelivered := true } : TxEntry).urgent = e.urgent := rfl
  unfold State.givenBack
  dsimp only
  rw [hurgent]
  split
  · simp only [State.setTx, hrest]
  · split
    · split
      · simp only [State.setTx, hrest]
      · split
        · simp only [State.setTx, hone, hrest]
        · simp only [State.setTx, happ, hone, htake, hdrop]
    · split
      · simp only [State.setTx, hone, hrest]
      · simp only [State.setTx, happ, hone, htake, hdrop]

theorem selfDeliver_of_marked {s t : State} {e : TxEntry}
    (h : s.setTx (markDelivered e.producer s.tx) = t) (hst : t.bus.station ≠ .conflict) : s.selfDeliver e = t.ownDelivery e := by
  have hmarked : ∀ x ∈ t.tx, x.producer = e.producer → x.selfDelivered = true := by
    intro x hx hp
    rw [← h] at hx
    obtain ⟨y, _, rfl⟩ := List.mem_map.1 hx
    split
    · rfl
    · next hne =>
      rw [if_neg hne] at hp
      exact absurd hp hne
  have hagain : t.setTx (markDelivered e.producer t.tx) = t := by
    rw [← h]
    simp only [State.setTx, markDelivered, List.map_map]
    congr 1
    refine List.map_congr_left fun x _ => ?_
    simp only [Function.comp]
    split
    · simp
    · rfl
  rw [← selfDeliver_eq_ownDelivery t e hst hmarked]
  unfold State.selfDeliver
  have h1 : s.setTx (s.tx.map fun f => if f.producer = e.producer then { f with selfDelivered := true } else f) = t := h
  have h2 : t.setTx (t.tx.map fun f => if f.producer = e.producer then { f with selfDelivered := true } else f) = t := hagain
  rw [h1, h2]

theorem firstSending_iff (e : TxEntry) : e.selfDelivers = true ↔ e.FirstSending := by
  simp [TxEntry.selfDelivers, or_assoc]

/-- The consecutive-failure count set, and then admission (R139). -/
def State.counted (s : State) (n : Nat) : State := State.settle { s with bus := { s.bus with failures := n } }

theorem countFailures_of_lt {s : State} {n : Nat} (h : n < 32) : s.countFailures n = s.counted n := if_neg (by omega)

theorem givenBack_bus (s : State) (e : TxEntry) (rest : List TxEntry) :
    (s.givenBack e rest).bus = s.bus := by
  unfold State.givenBack
  dsimp only
  split
  · rfl
  · split
    · split <;> rfl
    · rfl

/-- Settles O38, by the outcome and the first sending. -/
theorem failedAttemptIsRetried : Obligations.FailedAttemptIsRetried := by
  intro s st e rest hact ht htx hconf hkind hretries hfail
  have hne := producer_ne_of_txSafe htx ht
  have hnone : ∀ a, (a = .failedNak ∨ a = .failedBit ∨ (a = .failedUnheard ∧ s.anyPresent = true)) → s.resultOf e a = none := by
    rintro a (rfl | rfl | ⟨rfl, hp⟩)
    · simp [State.resultOf, hkind, hretries]
    · simp [State.resultOf, hkind, hretries]
    · simp [State.resultOf, hkind, hretries, hp]
  have hgen : ∀ (c : Instr) (a : Attempt), attemptOf c = some a →
      (a = .failedNak ∨ a = .failedBit ∨ (a = .failedUnheard ∧ s.anyPresent = true)) →
      (s.attemptOver c).resultOf e a = s.resultOf e a → (s.attemptOver c).bus.station = s.bus.station →
      exec c s = .next ((if a ≠ .failedBit ∧ e.FirstSending then
          ((s.attemptOver c).givenBack { e with retries := e.retries + 1, selfDelivered := true } rest).ownDelivery e
        else (s.attemptOver c).givenBack { e with retries := e.retries + 1 } rest).counted (s.bus.failures + 1)) := by
    intro c a hc ha hres hst
    have hrestart : s.restartsAt e a = false := by simp [State.restartsAt, hnone a ha]
    have hn : failuresAfter s.bus.failures a (!s.anyPresent) = s.bus.failures + 1 := by
      rcases ha with rfl | rfl | ⟨rfl, hp⟩
      · rfl
      · rfl
      · simp [failuresAfter, hp]
    have hhead : (s.attemptOver c).headConcluded e rest a =
        (s.attemptOver c).givenBack { e with retries := e.retries + 1 } rest := by
      unfold State.headConcluded
      rw [hres, hnone a ha]
      exact headReturned_eq_givenBack _ _ _ hne
    rw [exec_attempt hact ht hc, hrestart]
    unfold State.concluded
    dsimp only
    rw [hn, hhead, countFailures_of_lt (by omega)]
    have hdeliver : ((s.attemptOver c).givenBack { e with retries := e.retries + 1 } rest).selfDeliver e =
        ((s.attemptOver c).givenBack { e with retries := e.retries + 1, selfDelivered := true } rest).ownDelivery e := by
      refine selfDeliver_of_marked (givenBack_marked (e := { e with retries := e.retries + 1 }) hne) ?_
      rw [givenBack_bus, hst]
      exact hconf
    rw [hdeliver]
    simp only [firstSending_iff, Bool.false_eq_true, if_false]
  refine ⟨fun ack => ?_, fun hp => ?_, ?_⟩
  · have h := hgen (.attemptConclusion ack true) .failedNak (by cases ack <;> rfl) (.inl rfl) rfl rfl
    by_cases hf : e.FirstSending
    · rw [h, if_pos ⟨by simp, hf⟩]
      exact (if_pos hf).symm
    · rw [h, if_neg fun hh => hf hh.2]
      exact (if_neg hf).symm
  · have hp' := (anyPresent_iff s).2 hp
    have h := hgen (.attemptConclusion false false) .failedUnheard rfl (.inr (.inr ⟨rfl, hp'⟩)) rfl rfl
    by_cases hf : e.FirstSending
    · rw [h, if_pos ⟨by simp, hf⟩]
      exact (if_pos hf).symm
    · rw [h, if_neg fun hh => hf hh.2]
      exact (if_neg hf).symm
  · have h := hgen .bitError .failedBit rfl (.inr (.inl rfl)) rfl rfl
    rw [h, if_neg fun hh => hh.1 rfl]
    rfl

end Sys2Proof.Machine
end

section
/-! PROOF. The restart at the conclusion of its REPORT, the hold-off and frames in error (R114, R121–R124, R140–R142,
R172, R185). -/

namespace Sys2Proof.Machine

/-! ## What a restart does not see (R172, R185)

A restart keeps the address, the rate, the time base, the pins, the sequence counter, the queue and the model's own
counter; what changes nothing else of these has the same restart. -/

theorem ActionSide.restart_eq {s t : State} (h : ActionSide s t) : t.restart = s.restart := by
  obtain ⟨_, _, _, _, _, _, _, _, _, _, rfl⟩ := h
  rfl

theorem SettleSide.restart_eq {s t : State} (h : SettleSide s t) : t.restart = s.restart := by
  obtain ⟨_, _, _, _, _, _, _, _, rfl⟩ := h
  rfl

theorem flush_restart (s : State) : s.flush.restart = s.restart := by
  have hbus := (flush_bus_tx s).1
  obtain ⟨⟨_, _, _, _, _, _, _, _, _, _, _, _, h⟩, _⟩ := flush_transmit s
  have hsq : s.flush.bus.sequence = s.bus.sequence := by rw [hbus]
  unfold State.restart
  rw [hsq, h]
  rfl

theorem enterState_restart (s : State) (st : StationState) : (s.enterState st).restart = s.restart := by
  rw [enterState_eq]
  split
  · exact (stopAll_side _).action.restart_eq
  · rfl

theorem enterWithdrawn_restart (s : State) : s.enterWithdrawn.restart = s.restart := by
  unfold State.enterWithdrawn
  rw [enterState_restart]
  exact flush_restart s

theorem countFailures_restart (s : State) (n : Nat) : (s.countFailures n).restart = s.restart := by
  unfold State.countFailures
  split
  · exact enterWithdrawn_restart s
  · exact (settle_side _).restart_eq

theorem selfDeliver_restart (s : State) (e : TxEntry) : (s.selfDeliver e).restart = s.restart := by
  unfold State.selfDeliver
  dsimp only
  split
  · exact (dispatchEdge_side _ _ _ _).restart_eq
  · exact (selfHold_side _ _ _).restart_eq
  · exact (dispatchClear_side _ _ _).restart_eq
  · rfl

theorem attemptOver_restart {s : State} {c : Instr} {a : Attempt} (hc : attemptOf c = some a) :
    (s.attemptOver c).restart = s.restart := by
  cases c with
  | bitError => rfl
  | attemptConclusion ack nak => cases nak <;> rfl
  | _ => cases hc

theorem attemptOver_resultOf {s : State} {c : Instr} {a : Attempt} (hc : attemptOf c = some a) (e : TxEntry) :
    (s.attemptOver c).resultOf e a = s.resultOf e a := by
  cases c with
  | bitError => rfl
  | attemptConclusion ack nak => cases nak <;> rfl
  | _ => cases hc

theorem tellConcluded_responder (s : State) {e : TxEntry} (hp : e.producer = .responder) (r : TxResult) :
    s.tellConcluded e r = (s.noteResult r).setReply none := by
  unfold State.tellConcluded
  rw [hp]

theorem noteResult_restart (s : State) (r : TxResult) : (s.noteResult r).restart = s.restart := by
  cases r <;> rfl

theorem setReply_restart (s : State) (r : Option Reply) : (s.setReply r).restart = s.restart := rfl

/-- Whatever the end of an attempt at a REPORT does, a restart after it is the restart before it. -/
theorem concluded_restart {s : State} {c : Instr} {a : Attempt} {e : TxEntry} {r : TxResult} (rest : List TxEntry)
    (hc : attemptOf c = some a) (hp : e.producer = .responder) (hr : s.resultOf e a = some r) :
    (s.concluded c e rest a).restart = s.restart := by
  have hhead : ((s.attemptOver c).headConcluded e rest a).restart = s.restart := by
    unfold State.headConcluded
    rw [attemptOver_resultOf hc, hr]
    dsimp only
    rw [tellConcluded_responder _ hp, setReply_restart, noteResult_restart]
    exact attemptOver_restart hc
  unfold State.concluded
  dsimp only
  rw [countFailures_restart]
  split
  · rw [selfDeliver_restart, hhead]
  · exact hhead

/-- Settles O41: the REPORT leaves the list at each of these outcomes. -/
theorem restartFollowsItsReport : Obligations.RestartFollowsItsReport := by
  intro s st e rest r hact ht hp hk hreply hrestart
  have hall : ∀ (c : Instr) (a : Attempt) (x : TxResult), attemptOf c = some a → s.resultOf e a = some x →
      exec c s = .next s.restart := by
    intro c a x hc hx
    have hat : s.restartsAt e a = true := by simp [State.restartsAt, hp, hx, hreply, hrestart]
    rw [exec_attempt hact ht hc, if_pos hat, concluded_restart rest hc hp hx]
  have hkind : e.kind ≠ .presence := by simp [hk]
  refine ⟨hall _ .delivered _ rfl rfl, fun hnone => ?_, fun hlimit => ?_⟩
  · have hp : s.anyPresent = false := Bool.eq_false_iff.2 fun h => by
      obtain ⟨a, ha⟩ := (anyPresent_iff s).1 h
      exact hnone a ha
    exact hall (.attemptConclusion false false) .failedUnheard .noAudience rfl (by simp [State.resultOf, hp])
  · have hlimit' : ¬e.retries < s.bus.retryLimit.toNat := by omega
    refine ⟨fun ack => ?_, ?_, ?_⟩
    · exact hall (.attemptConclusion ack true) .failedNak .undelivered (by cases ack <;> rfl)
        (by simp [State.resultOf, hkind, hlimit'])
    · by_cases hp : s.anyPresent = true
      · exact hall (.attemptConclusion false false) .failedUnheard .undelivered rfl
          (by simp [State.resultOf, hkind, hlimit', hp])
      · exact hall (.attemptConclusion false false) .failedUnheard .noAudience rfl (by simp [State.resultOf, hp])
    · exact hall .bitError .failedBit .undelivered rfl (by simp [State.resultOf, hkind, hlimit'])

/-! ## The hold-off (R140, R141, R142) -/

/-- Settles O42, by the station state. -/
theorem holdOffExpiryMovesTheStation : Obligations.HoldOffExpiryMovesTheStation := by
  intro s d hd
  have hne : s.bus.holdOff ≠ none := by simp [hd]
  have hexec : exec .holdOffExpiry s = execHoldOffExpiry s := rfl
  refine ⟨fun hst => ?_, fun hst => ?_⟩ <;>
    rw [hexec, execHoldOffExpiry, if_neg hne, hst] <;> dsimp only <;> rw [reach_eq hd]
  · rw [enterJoining_eq]
    rfl
  · rw [enterListening_eq]
    rfl

/-! ## Frames in error (R114, R121, R123, R124) -/

theorem answers_iff (st : StationState) : st.answers = true ↔ st = .listening ∨ st = .joining ∨ st = .joined := by
  simp [StationState.answers, or_assoc]

theorem slotsFor_incomplete (s : State) : s.slotsFor .incomplete = .none := by
  unfold State.slotsFor
  split <;> rfl

/-- Settles O43, by the verdict. -/
theorem framesInErrorAreDiscarded : Obligations.FramesInErrorAreDiscarded := by
  intro s hrec
  have htakes := (takesFrame_iff s).2 hrec
  refine ⟨?_, fun cells hv => ?_⟩
  · have hexec : exec .frameTruncation s = .next (s.takeVerdict .incomplete) := if_pos htakes
    rw [hexec]
    unfold State.takeVerdict
    dsimp only
    rw [slotsFor_incomplete]
    rfl
  · have hexec : exec (.frameInError cells) s = .next (s.takeVerdict (verdict cells)).settle := if_pos htakes
    have hslots : s.slotsFor (verdict cells) =
        if (s.bus.station = .listening ∨ s.bus.station = .joining ∨ s.bus.station = .joined) ∧ s.bus.stopped = false
        then .nak else .none := by
      unfold State.slotsFor
      simp only [answers_iff]
      rcases hv with hv | hv <;> rw [hv] <;>
        (split
         · next ha => cases hs : s.bus.stopped <;> simp [ha]
         · next ha => exact (if_neg fun h => ha h.1).symm)
    have htaken : s.takeVerdict (verdict cells) = s.frameEnds (s.slotsFor (verdict cells)) := by
      rcases hv with hv | hv <;> rw [hv] <;> rfl
    rw [hexec, htaken, hslots]
    rfl

end Sys2Proof.Machine
end

section
/-! PROOF. What a level and a stop leave alone, and the entry into CONFLICT (R19, R21, R51, R85, R86, R124, R143, R144,
R167). -/

namespace Sys2Proof.Machine

/-! ## A level at the source table (R10)

A level moves hold-mode entries through their states: it touches no edge count, takes entries out of the list and puts
none in, and of the fault set it touches the kind ORPHANED. -/

/-- The edge run state of an entry (section 1.3). -/
def SourceEntry.edgeCounts (e : SourceEntry) : EdgeState × BitVec 4 × BitVec 4 × Direction :=
  (e.edgeState, e.pendingCount, e.nextCount, e.lastDir)

/-- Only the hold side of the source table, the list and the fault kind ORPHANED differ. -/
def LevelSide (s t : State) : Prop :=
  (∃ src l o, t = { s with sources := src, tx := l, faults := { s.faults with orphaned := o } }) ∧
    (∀ i, (t.source i).edgeCounts = (s.source i).edgeCounts) ∧ t.tx.Sublist s.tx

theorem LevelSide.refl (s : State) : LevelSide s s := ⟨⟨_, _, _, rfl⟩, fun _ => rfl, .refl _⟩

theorem LevelSide.trans {s t u : State} (h : LevelSide s t) (k : LevelSide t u) : LevelSide s u := by
  refine ⟨?_, fun i => (k.2.1 i).trans (h.2.1 i), k.2.2.trans h.2.2⟩
  obtain ⟨⟨_, _, _, rfl⟩, _⟩ := h
  obtain ⟨⟨_, _, _, rfl⟩, _⟩ := k
  exact ⟨_, _, _, rfl⟩

theorem LevelSide.setSource {s t : State} (h : LevelSide s t) {i : Fin 16} {e : SourceEntry}
    (he : e.edgeCounts = (s.source i).edgeCounts) : LevelSide s (t.setSource i e) := by
  obtain ⟨hfields, hsrc, htx⟩ := h
  refine ⟨?_, fun j => ?_, htx⟩
  · obtain ⟨_, _, _, rfl⟩ := hfields
    exact ⟨_, _, _, rfl⟩
  · rw [State.source_setSource]
    split
    · next hij => rw [he, hij]
    · exact hsrc j

theorem setSource_levelSide (s : State) (i : Fin 16) {e : SourceEntry} (he : e.edgeCounts = (s.source i).edgeCounts) :
    LevelSide s (s.setSource i e) := (LevelSide.refl s).setSource he

theorem refreshOrphaned_levelSide (s : State) : LevelSide s s.refreshOrphaned :=
  ⟨⟨_, _, _, rfl⟩, fun _ => rfl, .refl _⟩

theorem withdrawEntry_levelSide (s : State) (p : Producer) : LevelSide s (s.withdrawEntry p) :=
  ⟨⟨_, _, _, rfl⟩, fun _ => rfl, List.filter_sublist⟩

theorem dropOffBus_levelSide (s : State) (i : Fin 16) : LevelSide s (s.dropOffBus i) := by
  rw [dropOffBus_eq]
  refine (withdrawEntry_levelSide s (.source i)).setSource ?_
  unfold SourceEntry.retracted
  split
  · rfl
  · split <;> rfl

theorem conditionAsserts_levelSide (s : State) (i : Fin 16) : LevelSide s (s.conditionAsserts i) := by
  have h := setSource_levelSide s i (e := { s.source i with condition := true }) rfl
  unfold State.conditionAsserts
  dsimp only
  split
  · refine h.setSource ?_
    rw [State.source_setSource_self]
    rfl
  · exact h.setSource rfl
  all_goals exact h

theorem conditionDrops_levelSide (s : State) (i : Fin 16) : LevelSide s (s.conditionDrops i) := by
  have h := setSource_levelSide s i (e := { s.source i with condition := false }) rfl
  unfold State.conditionDrops
  dsimp only
  split
  · exact h
  · exact h
  · split
    · exact h.setSource rfl
    · exact h.trans (dropOffBus_levelSide _ i)
  all_goals
    refine LevelSide.trans ?_ (refreshOrphaned_levelSide _)
    exact h.setSource rfl

theorem setCondition_levelSide (s : State) (i : Fin 16) (c : Bool) : LevelSide s (s.setCondition i c) := by
  unfold State.setCondition
  split
  · exact LevelSide.refl s
  · split
    · exact conditionAsserts_levelSide s i
    · exact conditionDrops_levelSide s i

theorem presentLevel_levelSide (s : State) (o : Origin) (b : Bool) : LevelSide s (s.presentLevel o b) := by
  refine forEach_rel LevelSide.refl LevelSide.trans _ (fun i t => ?_) s
  split
  · exact setCondition_levelSide t i _
  · exact LevelSide.refl t

/-! ## Stops (R85, R86) -/

/-- What stops leave: no edge count, no line's forced-safe flag or safe level, no record outside ACTING, no fault kind but
ORPHANED; nothing enters the list and no generator starts. -/
structure StopKeeps (s t : State) : Prop where
  side : GenSide s t
  tx : t.tx.Sublist s.tx
  faults : t.faults = { s.faults with orphaned := t.faults.orphaned }
  lines : ∀ o, (t.out o).forcedSafe = (s.out o).forcedSafe ∧ (t.out o).safe = (s.out o).safe
  edges : ∀ i, (t.source i).edgeCounts = (s.source i).edgeCounts
  records : ∀ j r, s.slot j = some r → r.state ≠ .acting → ∃ q, t.slot j = some q ∧ q.state = r.state
  idle : ∀ g, (s.gen g).phase = .idle → (t.gen g).phase = .idle

theorem StopKeeps.refl (s : State) : StopKeeps s s :=
  ⟨GenSide.refl s, .refl _, rfl, fun _ => ⟨rfl, rfl⟩, fun _ => rfl, fun _ r h _ => ⟨r, h, rfl⟩, fun _ h => h⟩

theorem StopKeeps.trans {s t u : State} (h : StopKeeps s t) (k : StopKeeps t u) : StopKeeps s u where
  side := h.side.trans k.side
  tx := k.tx.trans h.tx
  faults := by rw [k.faults, h.faults]
  lines o := ⟨(k.lines o).1.trans (h.lines o).1, (k.lines o).2.trans (h.lines o).2⟩
  edges i := (k.edges i).trans (h.edges i)
  records j r hr hst := by
    obtain ⟨q, hq, hqr⟩ := h.records j r hr hst
    obtain ⟨p, hp, hpq⟩ := k.records j q hq (hqr ▸ hst)
    exact ⟨p, hp, hpq.trans hqr⟩
  idle g hg := k.idle g (h.idle g hg)

theorem LevelSide.stopKeeps {s t : State} (h : LevelSide s t) : StopKeeps s t := by
  obtain ⟨⟨_, _, _, rfl⟩, hsrc, htx⟩ := h
  exact ⟨⟨_, _, _, _, _, _, _, rfl⟩, htx, rfl, fun _ => ⟨rfl, rfl⟩, hsrc, fun _ r hr _ => ⟨r, hr, rfl⟩, fun _ h => h⟩

theorem dropClaim_stopKeeps (s : State) (g : Fin 8) : StopKeeps s (s.dropClaim g) := by
  unfold State.dropClaim State.releaseLine
  split
  · exact StopKeeps.refl s
  · next o _ =>
    split
    · refine ⟨setOut_side _ _ _, .refl _, rfl, fun p => ?_, fun _ => rfl, fun _ r hr _ => ⟨r, hr, rfl⟩, fun _ h => h⟩
      rw [State.out_setOut]
      split
      · next hop => exact hop ▸ ⟨rfl, rfl⟩
      · exact ⟨rfl, rfl⟩
    · exact StopKeeps.refl s

theorem setGen_stopKeeps (s : State) (g : Fin 8) {e : Generator} (he : e.phase = .idle) : StopKeeps s (s.setGen g e) := by
  refine ⟨setGen_side _ _ _, .refl _, rfl, fun _ => ⟨rfl, rfl⟩, fun _ => rfl, fun _ r hr _ => ⟨r, hr, rfl⟩, fun x hx => ?_⟩
  rw [State.gen_setGen]
  split
  · exact he
  · exact hx

theorem idleReport_slot_of_not_acting {s : State} {g j : Fin 8} {r : AcceptRecord} (h : s.slot j = some r)
    (hst : r.state ≠ .acting) : ∃ q, (s.idleReport g).slot j = some q ∧ q.state = r.state := by
  refine ⟨r.atIdle g, ?_, ?_⟩
  · rw [idleReport_slot, h]
    rfl
  · unfold AcceptRecord.atIdle AcceptRecord.tested
    split
    · next hh => exact absurd hh.1 hst
    · rfl

theorem idleReport_stopKeeps (s : State) (g : Fin 8) : StopKeeps s (s.idleReport g) :=
  ⟨idleReport_side _ _, .refl _, rfl, fun _ => ⟨rfl, rfl⟩, fun _ => rfl,
    fun _ _ hr hst => idleReport_slot_of_not_acting hr hst, fun _ h => h⟩

theorem endRun_stopKeeps (s : State) (g : Fin 8) : StopKeeps s (s.endRun g) :=
  ((dropClaim_stopKeeps s g).trans (setGen_stopKeeps _ g rfl)).trans (idleReport_stopKeeps _ g)

theorem stopGen_stopKeeps (s : State) (g : Fin 8) : StopKeeps s (s.stopGen g) := by
  unfold State.stopGen
  split
  · exact StopKeeps.refl s
  · exact (endRun_stopKeeps s g).trans (presentLevel_levelSide _ _ _).stopKeeps

theorem stopGen_idle (s : State) (g : Fin 8) : ((s.stopGen g).gen g).phase = .idle := by
  unfold State.stopGen
  split
  · next h => exact h
  · refine (presentLevel_levelSide (s.endRun g) (.generator g) _).stopKeeps.idle g ?_
    refine (idleReport_stopKeeps _ g).idle g ?_
    rw [State.gen_setGen_self]

theorem stopAll_stopKeeps (s : State) : StopKeeps s s.stopAll :=
  forEach_rel StopKeeps.refl StopKeeps.trans _ (fun g t => stopGen_stopKeeps t g) s

/-- After a stop of every generator each is in IDLE. -/
theorem stopAll_idle (s : State) (g : Fin 8) : (s.stopAll.gen g).phase = .idle := by
  have hfold : ∀ (l : List (Fin 8)) (t : State), g ∈ l →
      ((l.foldl (fun u x => u.stopGen x) t).gen g).phase = .idle := by
    intro l
    induction l with
    | nil => exact fun _ h => absurd h List.not_mem_nil
    | cons x l ih =>
      intro t hg
      by_cases hl : g ∈ l
      · exact ih _ hl
      · obtain rfl : g = x := (List.mem_cons.1 hg).resolve_right hl
        have hrest : StopKeeps (t.stopGen g) (l.foldl (fun u x => u.stopGen x) (t.stopGen g)) :=
          foldl_rel StopKeeps.refl StopKeeps.trans _ (fun u x => stopGen_stopKeeps u x) l _
        exact hrest.idle g (stopGen_idle t g)
  exact hfold _ s (mem_indices g)

/-! ## A flush and the bus interface (R142, R143) -/

theorem countTimes_setBus (s : State) (b : BusInterface) (t : TallyName) (n : Nat) :
    (s.setBus b).countTimes t n = (s.countTimes t n).setBus b := by
  induction n generalizing s with
  | zero => rfl
  | succ n ih => exact ih (s.count t)

theorem edgeFlushed_of_room {s : State} {i : Fin 16}
    (h : (limitedSum (s.source i).pendingCount (s.source i).nextCount).2 = 0) :
    s.edgeFlushed i = (s.setSource i (s.source i).flushed).countTimes .lostEdges
      (limitedSum (s.source i).pendingCount (s.source i).nextCount).2 := if_pos h

theorem edgeFlushed_of_overflow {s : State} {i : Fin 16}
    (h : (limitedSum (s.source i).pendingCount (s.source i).nextCount).2 ≠ 0) :
    s.edgeFlushed i = ((s.setSource i (s.source i).flushed).countTimes .lostEdges
      (limitedSum (s.source i).pendingCount (s.source i).nextCount).2).latch .lostEdges := if_neg h

theorem tellFlushed_setBus (s : State) (b : BusInterface) (e : TxEntry) :
    (s.setBus b).tellFlushed e = (s.tellFlushed e).setBus b := by
  have hedge : ∀ i, (s.setBus b).edgeFlushed i = (s.edgeFlushed i).setBus b := by
    intro i
    have hc := countTimes_setBus (s.setSource i (s.source i).flushed) b .lostEdges
      (limitedSum (s.source i).pendingCount (s.source i).nextCount).2
    by_cases hn : (limitedSum (s.source i).pendingCount (s.source i).nextCount).2 = 0
    · rw [edgeFlushed_of_room hn, edgeFlushed_of_room (s := s.setBus b) hn]
      exact hc
    · rw [edgeFlushed_of_overflow hn, edgeFlushed_of_overflow (s := s.setBus b) hn]
      exact congrArg (State.latch · .lostEdges) hc
  unfold State.tellFlushed
  split
  · split <;> rfl
  · split
    · exact hedge _
    · rfl
  · rfl
  · split <;> rfl

/-- A flush does not read the bus interface. -/
theorem flush_setBus (s : State) (b : BusInterface) : (s.setBus b).flush = s.flush.setBus b := by
  have hfold : ∀ (l : List TxEntry) (t : State),
      l.foldl State.tellFlushed (t.setBus b) = (l.foldl State.tellFlushed t).setBus b := by
    intro l
    induction l with
    | nil => exact fun _ => rfl
    | cons e l ih =>
      intro t
      rw [List.foldl_cons, List.foldl_cons, tellFlushed_setBus, ih]
  have h := hfold s.tx (s.setTx [])
  unfold State.flush
  dsimp only
  rw [show (s.setBus b).tx.foldl State.tellFlushed ((s.setBus b).setTx []) = _ from h]
  rfl

/-! ## The entry into CONFLICT (R124, R143, R144) -/

/-- The station in CONFLICT before the stops (R143). -/
def State.toConflict (s : State) : State :=
  { s.flush with
    bus := { s.bus with station := .conflict, holdOff := none }
    faults := { s.flush.faults with withdrawn := false, addressConflict := true }
    outs := s.outs.map (fun l => { l with forcedSafe := true }) }

theorem conflict_eq (t : State) :
    (((t.setBus { t.bus with holdOff := none }).unlatch .withdrawn).latch .addressConflict).enterState .conflict =
      State.stopAll { t with
        bus := { t.bus with station := .conflict, holdOff := none }
        faults := { t.faults with withdrawn := false, addressConflict := true }
        outs := t.outs.map (fun l => { l with forcedSafe := true }) } := by
  have hforced : ∀ b, forcedIn .conflict b = true := fun _ => rfl
  rw [enterState_eq, hforced, if_pos rfl]
  simp only [State.moveTo, State.latch, State.unlatch, State.setFaults, State.setForced, State.setBus, FaultSet.put, hforced]

theorem flush_outs (s : State) : s.flush.outs = s.outs := by
  obtain ⟨⟨_, _, _, _, _, _, _, _, _, _, _, _, h⟩, _⟩ := flush_transmit s
  rw [h]

theorem enterConflict_eq (s : State) : s.enterConflict = s.toConflict.stopAll := by
  unfold State.enterConflict State.toConflict
  dsimp only
  rw [conflict_eq, flush_outs, (flush_bus_tx s).1]

theorem stopAll_eq (s : State) : s.stopAll = [0, 1, 2, 3, 4, 5, 6, 7].foldl State.stopGen s := rfl

theorem formatOk_verdict {f : Frame} (h : f.formatOk = true) : f.verdict = .correct f := by
  unfold Frame.verdict
  rw [h]
  rfl

/-- A correct frame with the own address is answered in neither slot. -/
theorem receive_ownAddress {s : State} {f : Frame} (hrec : Receiving s) (hok : f.formatOk = true)
    (hf : f.sender = s.address) : s.receive f = (s.frameEnds .none).takeOwnAddress := by
  have hslots : s.slotsFor (.correct f) = .none := by
    unfold State.slotsFor
    split
    · exact if_pos hf
    · rfl
  unfold State.receive
  rw [(takesFrame_iff s).2 hrec, if_pos rfl, formatOk_verdict hok]
  unfold State.takeVerdict
  rw [hslots]
  exact if_pos hf

theorem look_map_forced {v : Vector OutputLine 8} (b : Bool) (o : Fin 8) :
    look (v.map (fun l => { l with forcedSafe := b })) o = { look v o with forcedSafe := b } := by
  simp [look_map]

/-- Settles O44: the station in CONFLICT is that of the flush, and the stops leave what they leave. -/
theorem ownAddressFrameEntersConflict : Obligations.OwnAddressFrameEntersConflict := by
  intro s standing seq ch m hrec hok
  have hexec : exec (.ownAddressFrame standing seq ch m) s = .next (s.frameEnds .none).takeOwnAddress :=
    congrArg _ (receive_ownAddress hrec hok rfl)
  refine ⟨fun hst => ?_, fun hst => ?_⟩
  · generalize hw : (s.frameEnds .none).toConflict = w
    have htaken : (s.frameEnds .none).takeOwnAddress = w.stopAll := by
      rw [← hw, ← enterConflict_eq]
      exact if_neg hst
    have hflush : (s.frameEnds .none).flush = s.flush.setBus (s.frameEnds .none).bus := flush_setBus s _
    have hw' : w = { s.flush with
        bus := { s.bus with station := .conflict, holdOff := none, phase := .waitingIdle, stopped := false,
                            slotAnswer := .none }
        faults := { s.flush.faults with withdrawn := false, addressConflict := true }
        outs := s.outs.map (fun l => { l with forcedSafe := true }) } := by
      rw [← hw, State.toConflict, hflush]
      rfl
    obtain ⟨hside, htx, hfaults, hlines, hedges, hrecords, _⟩ := stopAll_stopKeeps w
    have hforced : ∀ o, (w.stopAll.out o).forcedSafe = true := fun o => by
      rw [(hlines o).1, hw', State.out, look_map_forced]
    have hsafe : ∀ o, (w.stopAll.out o).safe = (s.out o).safe := fun o => by
      rw [(hlines o).2, hw', State.out, look_map_forced]
      rfl
    have hbus : w.stopAll.bus = { s.bus with
        station := .conflict, holdOff := none, phase := .waitingIdle, stopped := false, slotAnswer := .none } := by
      rw [hside.action.bus_eq, hw']
    have hconflict : w.stopAll.faults.addressConflict = true ∧ w.stopAll.faults.withdrawn = false := by
      rw [hfaults, hw']
      exact ⟨rfl, rfl⟩
    have hempty : w.stopAll.tx = [] := by
      have h0 : w.tx = [] := by rw [hw']; exact (flush_bus_tx s).2
      rw [h0] at htx
      exact List.sublist_nil.1 htx
    have hkept : w.stopAll.reply = s.flush.reply ∧ w.stopAll.beacon = s.flush.beacon ∧ w.stopAll.roster = s.flush.roster ∧
        w.stopAll.counters = s.flush.counters ∧ w.stopAll.groups = s.flush.groups := by
      obtain ⟨_, _, _, _, _, _, _, h⟩ := hside
      rw [h, hw']
      exact ⟨rfl, rfl, rfl, rfl, rfl⟩
    have hflushed : s.flush.roster = s.roster ∧ s.flush.counters = s.counters ∧ s.flush.groups = s.groups := by
      obtain ⟨⟨_, _, _, _, _, _, _, _, _, _, _, _, h⟩, _⟩ := flush_transmit s
      rw [h]
      exact ⟨rfl, rfl, rfl⟩
    have hedges' : ∀ i, (w.stopAll.source i).edgeCounts = (s.flush.source i).edgeCounts := fun i => by
      rw [hedges i, hw']
      rfl
    have hrecords' : ∀ (j : Fin 8) (r : AcceptRecord), s.flush.slot j = some r → r.state ≠ .acting →
        (w.stopAll.slot j).map AcceptRecord.state = some r.state := by
      intro j r hr hra
      obtain ⟨q, hq, hqr⟩ := hrecords j r (by rw [hw']; exact hr) hra
      rw [hq, Option.map_some, hqr]
    obtain ⟨hreply, hbeacon, hroster, hcounters, hgroups⟩ := hkept
    obtain ⟨hroster', hcounters', hgroups'⟩ := hflushed
    refine ⟨w.stopAll, by rw [hexec, htaken], by rw [stopAll_eq, hw'], hreply, hbeacon, fun i => ?_, hrecords',
      by rw [hbus], hempty, by rw [hbus], hconflict.1, hconflict.2, by simp [State.flt, FaultSet.nonEmpty, hconflict.1],
      by rw [hbus], by rw [hbus], hroster.trans hroster', by rw [hbus], by rw [hbus], by rw [hbus],
      by rw [hbeacon]; rfl, hcounters.trans hcounters', hgroups.trans hgroups', stopAll_idle w, fun o => ?_⟩
    · have h := hedges' i
      simp only [SourceEntry.edgeCounts, Prod.mk.injEq] at h
      exact ⟨h.1, h.2.1, h.2.2.1, h.2.2.2⟩
    · refine ⟨hforced o, ?_⟩
      unfold State.shown
      dsimp only
      rw [hforced o, if_pos rfl, hsafe o]
  · have htaken : (s.frameEnds .none).takeOwnAddress = s.frameEnds .none := if_pos hst
    rw [hexec, htaken]
    rfl

end Sys2Proof.Machine
end

section
/-! PROOF. The receive filter, the roster and the queries (R30, R57, R122, R126, R146–R148, R151, R156, R157, R160,
R164–R172). -/

namespace Sys2Proof.Machine

/-! ## A correct frame from a peer (R122, R146–R148) -/

/-- What a frame from a peer has at the receive filter. -/
structure Comes (s : State) (rx : Rx) (f : Frame) : Prop where
  receiving : Receiving s
  peer : rx.sender ≠ s.address
  sender : f.sender = rx.sender
  seq : f.seq = rx.seq
  format : f.formatOk = true

theorem comes {s : State} {rx : Rx} {ch : Channel} {m : Msg} (hrec : Receiving s) (hp : rx.sender ≠ s.address)
    (hok : (rxFrame rx ch m).formatOk = true) : Comes s rx (rxFrame rx ch m) := ⟨hrec, hp, rfl, rfl, hok⟩

theorem receive_of_comes {s : State} {rx : Rx} {f : Frame} (h : Comes s rx f) :
    s.receive f = (s.frameEnds (s.slotsFor (.correct f))).filter f := by
  have hf : f.sender ≠ s.address := h.sender ▸ h.peer
  unfold State.receive
  rw [(takesFrame_iff s).2 h.receiving, if_pos rfl, formatOk_verdict h.format]
  exact if_neg hf

theorem hear_of_comes {s : State} {rx : Rx} {f : Frame} (h : Comes s rx f) :
    (s.frameEnds (s.slotsFor (.correct f))).hear f = s.heardFrom rx := by
  have hslots : s.slotsFor (.correct f) =
      if s.bus.station = .listening ∨ s.bus.station = .joining ∨ s.bus.station = .joined then .ack else .none := by
    unfold State.slotsFor
    simp only [answers_iff]
    split
    · exact if_neg (h.sender ▸ h.peer)
    · rfl
  rw [hslots, State.hear, h.sender, h.seq]
  rfl

/-- A frame that is new, or of a kind that skips the test, is heard and delivered. -/
theorem receive_new {s : State} {rx : Rx} {f : Frame} (h : Comes s rx f) (hnew : msgSkipsFilter f.msg = true ∨ NewFrame s rx) :
    s.receive f = (s.heardFrom rx).deliver f (s.rosterAt rx.sender).lastSeq := by
  have hdup : (s.frameEnds (s.slotsFor (.correct f))).isDuplicate f = false := by
    have hr : (s.frameEnds (s.slotsFor (.correct f))).rosterAt f.sender = s.rosterAt rx.sender := by rw [h.sender]; rfl
    unfold State.isDuplicate
    rw [hr, h.seq]
    rcases hnew with hk | hn
    · simp [hk]
    · simp [hn]
  rw [receive_of_comes h]
  unfold State.filter
  rw [hdup, hear_of_comes h, h.sender]
  rfl

/-- A duplicate is heard and counted. -/
theorem receive_duplicate {s : State} {rx : Rx} {f : Frame} (h : Comes s rx f) (hk : msgSkipsFilter f.msg = false)
    (hold : ¬NewFrame s rx) : s.receive f = (s.heardFrom rx).count .duplicates := by
  have hdup : (s.frameEnds (s.slotsFor (.correct f))).isDuplicate f = true := by
    have hr : (s.frameEnds (s.slotsFor (.correct f))).rosterAt f.sender = s.rosterAt rx.sender := by rw [h.sender]; rfl
    unfold State.isDuplicate
    rw [hr, h.seq, hk, Classical.not_not.1 hold]
    simp
  rw [receive_of_comes h]
  unfold State.filter
  rw [hdup, hear_of_comes h]
  rfl

theorem receiveSettled_eq {s : State} (hrec : Receiving s) (f : Frame) : s.receiveSettled f = (s.receive f).settle :=
  if_pos ((takesFrame_iff s).2 hrec)

theorem formatOk_edge {rx : Rx} {ch : Channel} {n : BitVec 4} {d : Direction} (hch : ch ≠ 0) (hn : n ≠ 0) :
    (rxFrame rx ch (.edge n d)).formatOk = true := by
  simp only [Frame.formatOk, rxFrame, Msg.kind, kindChannelOk, Bool.and_eq_true, bne_iff_ne]
  exact ⟨hch, hn⟩

theorem formatOk_hold {rx : Rx} {ch : Channel} {k : InstNo} {re : Bool} (hch : ch ≠ 0) :
    (rxFrame rx ch (.hold k re)).formatOk = true := by
  simp only [Frame.formatOk, rxFrame, Msg.kind, kindChannelOk, Bool.and_eq_true, bne_iff_ne]
  exact ⟨hch, trivial⟩

theorem formatOk_clear {rx : Rx} {ch : Channel} {k : InstNo} (hch : ch ≠ 0) :
    (rxFrame rx ch (.clear k)).formatOk = true := by
  simp only [Frame.formatOk, rxFrame, Msg.kind, kindChannelOk, Bool.and_eq_true, bne_iff_ne]
  exact ⟨hch, trivial⟩

theorem formatOk_release {rx : Rx} {ch : Channel} {a : Addr} {k : InstNo} (hch : ch ≠ 0) :
    (rxFrame rx ch (.release a k)).formatOk = true := by
  simp only [Frame.formatOk, rxFrame, Msg.kind, kindChannelOk, Bool.and_eq_true, bne_iff_ne]
  exact ⟨hch, trivial⟩

theorem formatOk_query {rx : Rx} {a : Addr} {item index : Byte} : (rxFrame rx 0 (.query a item index)).formatOk = true := rfl

/-! ## The commands that hand a frame to the filter -/

/-- The commands of a QUERY to this station, with any item. -/
abbrev queryCommands (rx : Rx) (item index : Byte) : List Instr :=
  [.querySummary rx index, .querySource rx index, .queryAccept rx index, .queryGenerator rx index,
    .queryCounter rx index, .queryRoster rx index, .queryTally rx index, .queryOutputs rx index,
    .queryGroups rx index, .faultReset rx index, .queryRestart rx index, .queryUnknownItem rx item index]

/-- Each is the arrival of a QUERY of some item with the own address. -/
theorem exec_query {rx : Rx} {item index : Byte} {c : Instr} (hc : c ∈ queryCommands rx item index) (s : State) :
    ∃ it, exec c s = .next (s.receiveSettled (rxFrame rx 0 (.query s.address it index))) := by
  simp only [queryCommands, List.mem_cons, List.not_mem_nil, or_false] at hc
  rcases hc with rfl | rfl | rfl | rfl | rfl | rfl | rfl | rfl | rfl | rfl | rfl | rfl <;> exact ⟨_, rfl⟩

/-! ## What is heard and not delivered (R144, R146–R148, R151, R160) -/

theorem heardFrom_inert {s : State} (rx : Rx) (h : s.bus.station = .conflict) : (s.heardFrom rx).inert = true :=
  decide_eq_true h

theorem heardFrom_settle_of_conflict {s : State} (rx : Rx) (h : s.bus.station = .conflict) :
    (s.heardFrom rx).settle = s.heardFrom rx :=
  settle_of_not_admitting (s := s.heardFrom rx) (fun hs => by rw [show s.bus.station = .joining from hs] at h; cases h)
    (fun hs => by rw [show s.bus.station = .joined from hs] at h; cases h)

/-- In CONFLICT an EDGE, HOLD, CLEAR, RELEASE or QUERY is delivered to no block. -/
theorem deliver_of_conflict {s : State} {f : Frame} (prior : Option Seq) (h : s.inert = true)
    (hj : ∀ fresh sig, f.msg ≠ .join fresh sig) : s.deliver f prior = s := by
  unfold State.deliver
  split
  · next fresh sig hm => exact absurd hm (hj fresh sig)
  · rfl
  · rfl
  · exact if_pos h
  · exact if_pos h
  · exact if_pos h
  · exact if_pos h
  · exact if_pos h

theorem receiveSettled_of_conflict {s : State} {rx : Rx} {f : Frame} (h : Comes s rx f) (hst : s.bus.station = .conflict)
    (hnew : NewFrame s rx) (hj : ∀ fresh sig, f.msg ≠ .join fresh sig) : s.receiveSettled f = s.heardFrom rx := by
  rw [receiveSettled_eq h.receiving, receive_new h (.inr hnew), deliver_of_conflict _ (heardFrom_inert rx hst) hj,
    heardFrom_settle_of_conflict rx hst]

/-- Settles O45, kind by kind. -/
theorem rosterOnlyArrivals : Obligations.RosterOnlyArrivals := by
  intro s rx hrec hpeer
  refine ⟨fun f code a hcode => ?_, fun q item index d0 d1 d2 => ?_, fun target item index ht => ?_, fun item index => ?_,
    fun hst hnew ch k item index hch => ?_⟩
  · have hok : (rxFrame rx 0 (.presence f code a)).formatOk = true := by
      simpa [Frame.formatOk, rxFrame, Msg.kind, kindChannelOk] using hcode
    exact congrArg _ (receive_new (comes hrec hpeer hok) (.inl rfl))
  · have hc := comes (ch := 0) (m := .report q item index d0 d1 d2) hrec hpeer rfl
    exact ⟨fun hnew => congrArg _ (receive_new hc (.inr hnew)), fun hold => congrArg _ (receive_duplicate hc rfl hold)⟩
  · have hc := comes (ch := 0) (m := .query target item index) hrec hpeer rfl
    have hexec : exec (.queryOtherTarget rx target item index) s = .next (s.receive (rxFrame rx 0 (.query target item index))) :=
      congrArg _ (if_neg ht)
    refine ⟨fun hnew => ?_, fun hold => ?_⟩
    · have hnot : (s.heardFrom rx).deliver (rxFrame rx 0 (.query target item index)) (s.rosterAt rx.sender).lastSeq =
          s.heardFrom rx := by
        unfold State.deliver
        dsimp only [rxFrame]
        split
        · rfl
        · exact if_neg ht
      rw [hexec, receive_new hc (.inr hnew), hnot]
    · rw [hexec, receive_duplicate hc rfl hold]
      rfl
  · exact congrArg _ (if_pos rfl)
  · refine ⟨fun n dir hn => ?_, fun re => ?_, ?_, fun owner => ?_, fun c hc => ?_⟩
    · exact congrArg _ (receiveSettled_of_conflict (comes hrec hpeer (formatOk_edge hch hn)) hst hnew (by simp [rxFrame]))
    · exact congrArg _ (receiveSettled_of_conflict (comes hrec hpeer (formatOk_hold hch)) hst hnew (by simp [rxFrame]))
    · exact congrArg _ (receiveSettled_of_conflict (comes hrec hpeer (formatOk_clear hch)) hst hnew (by simp [rxFrame]))
    · exact congrArg _ (receiveSettled_of_conflict (comes hrec hpeer (formatOk_release hch)) hst hnew (by simp [rxFrame]))
    · obtain ⟨it, hexec⟩ := exec_query hc s
      rw [hexec]
      exact congrArg _ (receiveSettled_of_conflict (comes hrec hpeer formatOk_query) hst hnew (by simp [rxFrame]))

/-- Settles O46: a duplicate is counted, and admission follows. -/
theorem duplicatesAreNotDelivered : Obligations.DuplicatesAreNotDelivered := by
  intro s rx c hrec hpeer hold hc
  have hdup : ∀ {ch : Channel} {m : Msg}, (rxFrame rx ch m).formatOk = true → msgSkipsFilter m = false →
      s.receiveSettled (rxFrame rx ch m) = ((s.heardFrom rx).count .duplicates).settle := fun hok hk => by
    rw [receiveSettled_eq hrec, receive_duplicate (comes hrec hpeer hok) hk hold]
  rcases hc with ⟨ch, n, d, hch, hn, rfl⟩ | ⟨ch, k, re, hch, rfl⟩ | ⟨ch, k, hch, rfl⟩ | ⟨ch, o, k, hch, rfl⟩ |
    ⟨item, index, hc⟩
  · exact congrArg _ (hdup (formatOk_edge hch hn) rfl)
  · exact congrArg _ (hdup (formatOk_hold hch) rfl)
  · exact congrArg _ (hdup (formatOk_clear hch) rfl)
  · exact congrArg _ (hdup (formatOk_release hch) rfl)
  · obtain ⟨it, hexec⟩ := exec_query hc s
    rw [hexec]
    exact congrArg _ (hdup formatOk_query rfl)

/-! ## RELEASE and JOIN (R30, R156, R157) -/

theorem inert_of_acting {s : State} (h : Acting s) : s.inert = false := decide_eq_false h.2

/-- Settles O16. -/
theorem releaseArrivalReachesTheSourceTable : Obligations.ReleaseArrivalReachesTheSourceTable := by
  intro s rx ch owner k hrec hact hpeer hch hnew
  have hinert : (s.heardFrom rx).inert = false := inert_of_acting (s := s) hact
  have hdeliver : (s.heardFrom rx).deliver (rxFrame rx ch (.release owner k)) (s.rosterAt rx.sender).lastSeq =
      (s.heardFrom rx).takeRelease rx.sender ch owner k := by
    unfold State.deliver
    dsimp only [rxFrame]
    rw [hinert]
    rfl
  have hexec : exec (.releaseArrival rx ch owner k) s = .next (s.receiveSettled (rxFrame rx ch (.release owner k))) := rfl
  rw [hexec, receiveSettled_eq hrec, receive_new (comes hrec hpeer (formatOk_release hch)) (.inr hnew), hdeliver]

/-- Settles O47: the sender's entry is written twice, by the filter and by the JOIN. -/
theorem joinArrivalStoresTheSignature : Obligations.JoinArrivalStoresTheSignature := by
  intro s rx fresh sig hrec hpeer
  dsimp only
  generalize hh : ({ s.heardFrom rx with
      roster := upd s.roster (addrIdx rx.sender)
        { state := .present, silence := 0, lastSeq := some rx.seq, signature := some sig
          freshJoins := if fresh = true ∧ (s.rosterAt rx.sender).lastSeq ≠ some rx.seq then
            satInc (s.rosterAt rx.sender).freshJoins else (s.rosterAt rx.sender).freshJoins }
      faults :=
        if s.bus.requireCommonImage = true ∧ sig ≠ s.loader.signature.getD 0 then
          { s.faults with imageMismatch := true }
        else s.faults } : State) = h
  have hok : (rxFrame rx 0 (.join fresh sig)).formatOk = true := rfl
  have hentry : (s.heardFrom rx).rosterAt rx.sender =
      { s.rosterAt rx.sender with state := .present, silence := 0, lastSeq := some rx.seq } := look_upd_self _ _ _
  have hjoin : (s.heardFrom rx).takeJoin (rxFrame rx 0 (.join fresh sig)) (s.rosterAt rx.sender).lastSeq fresh sig =
      if fresh then h.purge rx.sender else h := by
    have hcounts : (fresh && (s.rosterAt rx.sender).lastSeq != some rx.seq) = true ↔
        fresh = true ∧ (s.rosterAt rx.sender).lastSeq ≠ some rx.seq := by simp
    have hmismatch : (s.bus.requireCommonImage && sig != s.loader.signature.getD 0) = true ↔
        s.bus.requireCommonImage = true ∧ sig ≠ s.loader.signature.getD 0 := by simp
    unfold State.takeJoin
    dsimp only [rxFrame]
    rw [hentry]
    dsimp only
    simp only [hcounts, State.setRoster, State.ownSignature, State.heardFrom, upd_upd, hmismatch]
    rw [← hh]
    by_cases hm : s.bus.requireCommonImage = true ∧ sig ≠ s.loader.signature.getD 0
    · simp only [if_pos hm, State.latch, State.setFaults, FaultSet.put, State.heardFrom]
    · simp only [if_neg hm, State.heardFrom]
  have hexec : exec (.joinArrival rx fresh sig) s = .next (s.receiveSettled (rxFrame rx 0 (.join fresh sig))) := rfl
  rw [hexec, receiveSettled_eq hrec, receive_new (comes hrec hpeer hok) (.inl rfl)]
  refine congrArg _ ((congrArg State.settle hjoin).trans ?_)
  split <;> rfl

end Sys2Proof.Machine
end

section
/-! PROOF. Queries to this station (R164, R165, R168, R170–R172). -/

namespace Sys2Proof.Machine

/-! ## The checks of a QUERY (R168) -/

/-- The item and the index of a QUERY that shows a page. -/
abbrev PageInRange (item index : Byte) : Prop :=
  (item = 0 ∧ index = 0) ∨ (item = 1 ∧ index.toNat < 32) ∨ (item = 2 ∧ index.toNat < 16) ∨
    (item = 3 ∧ index.toNat < 8) ∨ (item = 4 ∧ index.toNat < 8) ∨ (item = 5 ∧ index.toNat < 64) ∨
    (item = 6 ∧ index.toNat < 10) ∨ (item = 7 ∧ index.toNat < 3) ∨ (item = 8 ∧ index = 0)

theorem byte_lt_one_iff (b : Byte) : b.toNat < 1 ↔ b = 0 := by
  rw [← BitVec.toNat_inj]
  simp

theorem pageInRange_iff {item index : Byte} (h : item.toNat ≤ 8) : PageInRange item index ↔ index.toNat < itemRange item := by
  have hcases : ∀ b : Byte, b.toNat ≤ 8 →
      b = 0 ∨ b = 1 ∨ b = 2 ∨ b = 3 ∨ b = 4 ∨ b = 5 ∨ b = 6 ∨ b = 7 ∨ b = 8 := by decide
  rcases hcases item h with rfl | rfl | rfl | rfl | rfl | rfl | rfl | rfl | rfl
  case inl | inr.inr.inr.inr.inr.inr.inr.inr =>
    rw [show itemRange _ = 1 from rfl, byte_lt_one_iff]
    simp [PageInRange]
  all_goals simp [PageInRange, itemRange]

theorem refusal_of_unknown {s : State} {a : Addr} {item index : Byte} (h : 10 < item.toNat) : s.refusal a item index = some 1 :=
  if_pos h

theorem refusal_of_page {s : State} {a : Addr} {item index : Byte} (h : item.toNat ≤ 8) :
    s.refusal a item index = if PageInRange item index then none else some 2 := by
  have hmaint : ¬(item = 9 ∨ item = 10) := by
    rintro (rfl | rfl) <;> simp at h
  unfold State.refusal
  rw [if_neg (by omega : ¬10 < item.toNat)]
  simp only [pageInRange_iff h, if_neg hmaint]
  split
  · next hr => exact (if_neg (by omega)).symm
  · next hr => exact (if_pos (by omega)).symm

/-- The check of the maintenance address (R170). -/
def maintenanceRefusal (m : Option Addr) (a : Addr) : Option (BitVec 3) :=
  match m with
  | none => some 4
  | some m => if m = a then none else some 3

theorem refusal_of_maintenance {s : State} {a : Addr} {item index : Byte} (h : item = 9 ∨ item = 10) :
    s.refusal a item index = if index = 0 then maintenanceRefusal s.maintenance a else some 2 := by
  have hrange : itemRange item = 1 ∧ ¬10 < item.toNat := by
    rcases h with rfl | rfl <;> exact ⟨rfl, by decide⟩
  unfold State.refusal
  rw [hrange.1, if_neg hrange.2]
  by_cases hi : index = 0
  · rw [if_pos hi, if_neg (by rw [hi]; decide), if_pos h]
    rfl
  · have hlt := (byte_lt_one_iff index).not.2 hi
    rw [if_pos (by omega), if_neg hi]

/-! ## A new QUERY (R164, R165) -/

/-- The reply that a QUERY sets, with its answer and restart flag. -/
abbrev replyOf (rx : Rx) (item index : Byte) (a : Answer) (restart : Bool) : Reply :=
  { querier := rx.sender, item := item, index := index, answer := a, restart := restart, state := .owed }

/-- A new QUERY to this station is taken by the responder. -/
theorem receiveSettled_query {s : State} {rx : Rx} (item index : Byte) (hrec : Receiving s) (hact : Acting s)
    (hpeer : rx.sender ≠ s.address) (hnew : NewFrame s rx) :
    s.receiveSettled (rxFrame rx 0 (.query s.address item index)) =
      ((s.heardFrom rx).takeQuery rx.sender item index).settle := by
  have hinert : (s.heardFrom rx).inert = false := inert_of_acting (s := s) hact
  have hdeliver : (s.heardFrom rx).deliver (rxFrame rx 0 (.query s.address item index)) (s.rosterAt rx.sender).lastSeq =
      (s.heardFrom rx).takeQuery rx.sender item index := by
    unfold State.deliver
    dsimp only [rxFrame]
    rw [hinert]
    exact if_pos rfl
  rw [receiveSettled_eq hrec, receive_new (comes hrec hpeer formatOk_query) (.inr hnew), hdeliver]

theorem replySending_of_sending {s : State} {r : Reply} (h : s.reply = some r) (hr : r.state = .sending) :
    s.replySending = true := by
  simp [State.replySending, h, hr]

theorem replySending_of_not {s : State} (h : ∀ r ∈ s.reply, r.state ≠ .sending) : s.replySending = false := by
  unfold State.replySending
  split
  · next r hr => exact decide_eq_false (h r (Option.mem_def.2 hr))
  · rfl

theorem takeQuery_dropped {s : State} {rx : Rx} {r : Reply} (item index : Byte) (h : s.reply = some r)
    (hr : r.state = .sending) :
    (s.heardFrom rx).takeQuery rx.sender item index =
      { s.heardFrom rx with tallies := upd s.tallies 8 (satInc (look s.tallies 8)) } := by
  have hsend : (s.heardFrom rx).replySending = true := replySending_of_sending h hr
  unfold State.takeQuery
  rw [hsend]
  rfl

/-- A refused QUERY, and one that is answered but is no FAULT-RESET, sets the pending reply and nothing else. -/
theorem takeQuery_replied {s : State} {rx : Rx} {item index : Byte} {a : Answer} {restart : Bool}
    (h : ∀ r ∈ s.reply, r.state ≠ .sending) (hreset : ¬(s.refusal rx.sender item index = none ∧ item = 9))
    (hreply : s.replyTo rx.sender item index = replyOf rx item index a restart) :
    (s.heardFrom rx).takeQuery rx.sender item index =
      { s.heardFrom rx with
        tx := withdrawWaiting .responder s.tx, reply := some (replyOf rx item index a restart) } := by
  have hsend : (s.heardFrom rx).replySending = false := replySending_of_not (s := s.heardFrom rx) h
  have hnot : ¬((s.heardFrom rx).refusal rx.sender item index = none ∧ item = 9) := hreset
  have hto : (s.heardFrom rx).replyTo rx.sender item index = replyOf rx item index a restart := hreply
  unfold State.takeQuery
  rw [hsend, hto]
  simp only [Bool.false_eq_true, if_false, if_neg hnot]
  rfl

/-- The answer that the checks give (R164, R168). -/
def answerOf (o : Option (BitVec 3)) : Answer :=
  match o with
  | none => .data
  | some r => .refused r

theorem replyTo_eq {s : State} {rx : Rx} {item index : Byte} {o : Option (BitVec 3)} (h : s.refusal rx.sender item index = o) :
    s.replyTo rx.sender item index =
      replyOf rx item index (answerOf o) (decide (o = none ∧ item = 10)) := by
  subst h
  rfl

/-- Settles O50, by the reply that stands and the checks. -/
theorem querySetsThePendingReply : Obligations.QuerySetsThePendingReply := by
  intro s rx item index c hrec hact hpeer hnew hc
  have hexec : exec c s = .next ((s.heardFrom rx).takeQuery rx.sender item index).settle := by
    rw [← receiveSettled_query item index hrec hact hpeer hnew]
    rcases hc with ⟨rfl, rfl⟩ | ⟨rfl, rfl⟩ | ⟨rfl, rfl⟩ | ⟨rfl, rfl⟩ | ⟨rfl, rfl⟩ | ⟨rfl, rfl⟩ | ⟨rfl, rfl⟩ | ⟨rfl, rfl⟩ |
      ⟨rfl, rfl⟩ | ⟨rfl, _⟩ <;> rfl
  have hitem : item.toNat ≤ 8 ∨ 10 < item.toNat := by
    rcases hc with ⟨_, rfl⟩ | ⟨_, rfl⟩ | ⟨_, rfl⟩ | ⟨_, rfl⟩ | ⟨_, rfl⟩ | ⟨_, rfl⟩ | ⟨_, rfl⟩ | ⟨_, rfl⟩ | ⟨_, rfl⟩ | ⟨_, h⟩
    case inr.inr.inr.inr.inr.inr.inr.inr.inr => exact .inr h
    all_goals exact .inl (by decide)
  have hne : item ≠ 9 ∧ item ≠ 10 := by
    refine ⟨?_, ?_⟩ <;> rintro rfl <;> exact absurd hitem (by decide)
  refine ⟨fun r hr hsend => ?_, fun hnone => ?_⟩
  · rw [hexec, takeQuery_dropped item index hr hsend]
  · have hto := replyTo_eq (s := s) (rx := rx) (item := item) (index := index) rfl
    rw [decide_eq_false fun h => hne.2 h.2] at hto
    refine ⟨_, by rw [hexec, takeQuery_replied hnone (fun h => hne.1 h.2) hto], fun hin => ?_, fun hle hout => ?_, fun hgt => ?_⟩
    · have hin' : PageInRange item index := hin
      have hle : item.toNat ≤ 8 := by
        rcases hin' with ⟨rfl, _⟩ | ⟨rfl, _⟩ | ⟨rfl, _⟩ | ⟨rfl, _⟩ | ⟨rfl, _⟩ | ⟨rfl, _⟩ | ⟨rfl, _⟩ | ⟨rfl, _⟩ | ⟨rfl, _⟩ <;>
          decide
      rw [refusal_of_page hle, if_pos hin']
      rfl
    · rw [refusal_of_page hle, if_neg hout]
      rfl
    · rw [refusal_of_unknown hgt]
      rfl

/-! ## FAULT-RESET and RESTART (R165, R170–R172) -/

/-- Settles O51, by the checks of the maintenance items. -/
theorem maintenanceItemsAreForTheMaintenanceAddress : Obligations.MaintenanceItemsAreForTheMaintenanceAddress := by
  intro s rx hrec hact hpeer hnew
  have hreset : ∀ index, exec (.faultReset rx index) s = .next ((s.heardFrom rx).takeQuery rx.sender 9 index).settle :=
    fun index => congrArg _ (receiveSettled_query 9 index hrec hact hpeer hnew)
  have hrestart : ∀ index, exec (.queryRestart rx index) s = .next ((s.heardFrom rx).takeQuery rx.sender 10 index).settle :=
    fun index => congrArg _ (receiveSettled_query 10 index hrec hact hpeer hnew)
  refine ⟨fun index r hr hsend => ?_, fun hnone => ?_⟩
  · exact ⟨by rw [hreset, takeQuery_dropped 9 index hr hsend], by rw [hrestart, takeQuery_dropped 10 index hr hsend]⟩
  · have hrefused : ∀ (item index : Byte) (n : BitVec 3), s.refusal rx.sender item index = some n →
        (s.heardFrom rx).takeQuery rx.sender item index = { s.heardFrom rx with
          tx := withdrawWaiting .responder s.tx, reply := some (replyOf rx item index (.refused n) false) } :=
      fun item index n hn => takeQuery_replied hnone (fun h => by simp [hn] at h) (replyTo_eq hn)
    have hboth : ∀ (index : Byte) (n : BitVec 3),
        s.refusal rx.sender 9 index = some n → s.refusal rx.sender 10 index = some n →
        exec (.faultReset rx index) s = .next (State.settle { s.heardFrom rx with
          tx := withdrawWaiting .responder s.tx, reply := some (replyOf rx 9 index (.refused n) false) }) ∧
        exec (.queryRestart rx index) s = .next (State.settle { s.heardFrom rx with
          tx := withdrawWaiting .responder s.tx, reply := some (replyOf rx 10 index (.refused n) false) }) :=
      fun index n h9 h10 => ⟨by rw [hreset, hrefused _ _ _ h9], by rw [hrestart, hrefused _ _ _ h10]⟩
    have hmaint : ∀ (item : Byte), item = 9 ∨ item = 10 → ∀ o, maintenanceRefusal s.maintenance rx.sender = o →
        s.refusal rx.sender item 0 = o := fun item hi o ho => by
      rw [refusal_of_maintenance hi, if_pos rfl, ho]
    refine ⟨fun index hi => ?_, fun hm => ⟨?_, ?_⟩, fun hm => ?_, fun m hm hne => ?_⟩
    · exact hboth index 2 (by rw [refusal_of_maintenance (.inl rfl), if_neg hi])
        (by rw [refusal_of_maintenance (.inr rfl), if_neg hi])
    · have hok := hmaint 9 (.inl rfl) none (by rw [hm, maintenanceRefusal, if_pos rfl])
      have hto : (s.heardFrom rx).replyTo rx.sender 9 0 = replyOf rx 9 0 .data false := replyTo_eq (s := s.heardFrom rx) hok
      have hsend : (s.heardFrom rx).replySending = false := replySending_of_not (s := s.heardFrom rx) hnone
      have hpass : (s.heardFrom rx).refusal rx.sender 9 0 = none ∧ (9 : Byte) = 9 := ⟨hok, rfl⟩
      rw [hreset]
      unfold State.takeQuery
      rw [hsend, hto, if_neg Bool.false_ne_true, if_pos hpass]
      rfl
    · have hok := hmaint 10 (.inr rfl) none (by rw [hm, maintenanceRefusal, if_pos rfl])
      rw [hrestart, takeQuery_replied (a := .data) (restart := true) hnone (fun h => by simp at h) (replyTo_eq hok)]
    · exact hboth 0 4 (hmaint 9 (.inl rfl) _ (by rw [hm]; rfl)) (hmaint 10 (.inr rfl) _ (by rw [hm]; rfl))
    · have hthree : maintenanceRefusal s.maintenance rx.sender = some 3 := by rw [hm, maintenanceRefusal, if_neg hne]
      exact hboth 0 3 (hmaint 9 (.inl rfl) _ hthree) (hmaint 10 (.inr rfl) _ hthree)

end Sys2Proof.Machine
end

section
/-! PROOF. The dispatcher and the acceptance table (R41–R45, R48, R53–R61). -/

namespace Sys2Proof.Machine

/-! ## What actions leave of the acceptance table -/

/-- What no action changes in a record. -/
def AcceptRecord.ident (r : AcceptRecord) : Addr × Channel × InstNo := (r.sender, r.channel, r.inst)

/-- The age order stays, and every slot keeps its record, of the same sender, channel and number. -/
structure ActKeeps (s t : State) : Prop where
  age : t.ageOrder = s.ageOrder
  ids : ∀ j, (t.slot j).map AcceptRecord.ident = (s.slot j).map AcceptRecord.ident

theorem ActKeeps.refl (s : State) : ActKeeps s s := ⟨rfl, fun _ => rfl⟩

theorem ActKeeps.trans {s t u : State} (h : ActKeeps s t) (k : ActKeeps t u) : ActKeeps s u :=
  ⟨k.age.trans h.age, fun j => (k.ids j).trans (h.ids j)⟩

theorem ActKeeps.of_eq {s t : State} (ha : t.ageOrder = s.ageOrder) (hs : t.slots = s.slots) : ActKeeps s t :=
  ⟨ha, fun j => by rw [State.slot, hs]; rfl⟩

theorem GenSide.actKeeps {s t : State} (h : GenSide s t) (hs : t.slots = s.slots) : ActKeeps s t := by
  refine .of_eq ?_ hs
  obtain ⟨_, _, _, _, _, _, _, rfl⟩ := h
  rfl

theorem SourceSide.actKeeps {s t : State} (h : SourceSide s t) : ActKeeps s t := by
  obtain ⟨_, _, _, _, rfl⟩ := h
  exact .of_eq rfl rfl

theorem setGen_actKeeps (s : State) (g : Fin 8) (e : Generator) : ActKeeps s (s.setGen g e) := .of_eq rfl rfl
theorem setCounter_actKeeps (s : State) (c : Fin 4) (k : Counter) : ActKeeps s (s.setCounter c k) := .of_eq rfl rfl

theorem presentLevel_actKeeps (s : State) (o : Origin) (b : Bool) : ActKeeps s (s.presentLevel o b) :=
  (presentLevel_side s o b).actKeeps

theorem presentBusy_actKeeps (s : State) (g : Fin 8) : ActKeeps s (s.presentBusy g) := presentLevel_actKeeps s _ _

theorem AcceptRecord.tested_ident (r : AcceptRecord) : r.tested.ident = r.ident := by
  unfold AcceptRecord.tested
  split <;> rfl

theorem AcceptRecord.atIdle_ident (r : AcceptRecord) (g : Fin 8) : (r.atIdle g).ident = r.ident := by
  rw [AcceptRecord.atIdle, AcceptRecord.tested_ident]
  rfl

theorem idleReport_actKeeps (s : State) (g : Fin 8) : ActKeeps s (s.idleReport g) := by
  refine ⟨rfl, fun j => ?_⟩
  rw [idleReport_slot, Option.map_map]
  exact congrArg (fun f => (s.slot j).map f) (funext fun r => r.atIdle_ident g)

theorem dropClaim_actKeeps (s : State) (g : Fin 8) : ActKeeps s (s.dropClaim g) :=
  (dropClaim_side s g).actKeeps (dropClaim_slots s g)

theorem startRun_actKeeps (s : State) (g : Fin 8) : ActKeeps s (s.startRun g) :=
  (startRun_side s g).actKeeps (startRun_slots s g)

theorem endRun_actKeeps (s : State) (g : Fin 8) : ActKeeps s (s.endRun g) :=
  ((dropClaim_actKeeps s g).trans (setGen_actKeeps _ g _)).trans (idleReport_actKeeps _ g)

theorem trigger_actKeeps (s : State) (g : Fin 8) : ActKeeps s (s.trigger g) := by
  unfold State.trigger
  dsimp only
  split
  · exact startRun_actKeeps s g
  · split
    · exact .of_eq rfl rfl
    · exact (endRun_actKeeps s g).trans (startRun_actKeeps _ g)
    · split <;> exact .of_eq rfl rfl

theorem triggers_actKeeps (s : State) (g : Fin 8) (n : Nat) : ActKeeps s (s.triggers g n) := by
  induction n generalizing s with
  | zero => exact .refl s
  | succ n ih => exact (trigger_actKeeps s g).trans (ih _)

theorem fire_actKeeps (s : State) (g : Fin 8) (n : Nat) : ActKeeps s (s.fire g n) :=
  (triggers_actKeeps s g _).trans (presentBusy_actKeeps _ g)

theorem stopGen_actKeeps (s : State) (g : Fin 8) : ActKeeps s (s.stopGen g) := by
  unfold State.stopGen
  split
  · exact .refl s
  · exact (endRun_actKeeps s g).trans (presentBusy_actKeeps _ g)

theorem select_actKeeps (s : State) (g : Fin 8) (p : Fin 16) : ActKeeps s (s.select g p) := by
  unfold State.select
  split <;> exact .of_eq rfl rfl

theorem countBy_actKeeps (s : State) (c : Fin 4) (n : Nat) : ActKeeps s (s.countBy c n) :=
  ((setCounter_actKeeps s c _).trans (terminalEvents_side _ c _).actKeeps).trans (presentLevel_actKeeps _ _ _)

theorem resetCounter_actKeeps (s : State) (c : Fin 4) : ActKeeps s (s.resetCounter c) :=
  (setCounter_actKeeps s c _).trans (presentLevel_actKeeps _ _ _)

theorem runAction_actKeeps (s : State) (a : Action) (p : Option (Fin 16)) (n : Nat) : ActKeeps s (s.runAction a p n) := by
  unfold State.runAction
  split
  · exact .refl s
  · next t _ =>
    split
    case h_1 => exact fire_actKeeps s t n
    case h_2 => exact stopGen_actKeeps s t
    case h_3 =>
      split
      · exact select_actKeeps s t _
      · exact .refl s
    case h_6 => exact (toggleStatic_side s t n).actKeeps (by unfold State.toggleStatic; split <;> rfl)
    case h_7 =>
      split
      · exact countBy_actKeeps s _ n
      · exact .refl s
    case h_8 =>
      split
      · exact resetCounter_actKeeps s _
      · exact .refl s
    case h_9 | h_10 => split <;> exact .of_eq rfl rfl
    all_goals exact .of_eq rfl rfl

theorem clearAct_actKeeps (s : State) (k : Fin 32) : ActKeeps s (s.clearAct k) := runAction_actKeeps _ _ _ _

theorem clearActs_actKeeps (l : List (Fin 32)) (s : State) : ActKeeps s (l.foldl (fun t k => t.clearAct k) s) :=
  foldl_rel ActKeeps.refl ActKeeps.trans _ (fun t k => clearAct_actKeeps t k) l s

/-! ## Snapshots (R53, R55, R56) -/

theorem accepts_iff (k : SubKinds) (n : Notice) : k.accepts n = true ↔
    (k = .edge ∧ n = .edge) ∨ (k = .hold ∧ (n = .hold ∨ n = .clear)) ∨ k = .either := by
  cases k <;> cases n <;> simp [SubKinds.accepts]

theorem groupOn_iff (s : State) (g : SubGroup) : s.groupOn g = true ↔
    g = .always ∨ ∃ m, g = .member m ∧ look s.groups m = true := by
  cases g <;> simp [State.groupOn]

theorem mem_snapshot (s : State) (n : Notice) (a : Addr) (ch : Channel) (k : Fin 32) : k ∈ s.snapshot n a ch ↔
    (s.sub k).channel ≠ 0 ∧ (s.sub k).channel = ch ∧ ((s.sub k).sender = none ∨ (s.sub k).sender = some a) ∧
      (s.sub k).kinds.accepts n = true ∧ s.groupOn (s.sub k).group = true := by
  simp only [State.snapshot, List.mem_filter, mem_indices, true_and, State.subMatches, Bool.and_eq_true, bne_iff_ne,
    ne_eq, decide_eq_true_eq, Bool.or_eq_true, and_assoc]

theorem mem_of_mem_dutyList {s : State} {snap : List (Fin 32)} {w : Duty} (h : w ∈ s.dutyList snap) : w.sub ∈ snap := by
  simp only [State.dutyList, State.dutySubs, List.mem_map] at h
  obtain ⟨k, hk, rfl⟩ := h
  exact (List.mem_filter.1 (List.mem_of_mem_take hk)).1

/-- Settles O27. -/
theorem snapshotHoldsTheMatchingEntries : Obligations.SnapshotHoldsTheMatchingEntries := by
  intro s n a ch
  refine ⟨?_, fun k => ?_, fun w hw => ((mem_snapshot s n a ch _).1 (mem_of_mem_dutyList hw)).1⟩
  · exact (List.pairwise_lt_finRange 32).sublist List.filter_sublist
  · rw [mem_snapshot, accepts_iff, groupOn_iff]

/-! ## EDGE at the dispatcher (R58) -/

/-- Settles O28. -/
theorem edgeArrivalRunsTheSnapshot : Obligations.EdgeArrivalRunsTheSnapshot := by
  intro s rx ch count dir hrec hact hpeer hch hcount hnew
  have hinert : (s.heardFrom rx).inert = false := inert_of_acting (s := s) hact
  have hexec : exec (.edgeArrival rx ch count dir) s = .next (s.receiveSettled (rxFrame rx ch (.edge count dir))) := rfl
  have hdeliver : (s.heardFrom rx).dispatchEdge rx.sender ch count.toNat =
      (s.snapshot .edge rx.sender ch).foldl (fun t k => t.act k count.toNat) (s.heardFrom rx) :=
    if_neg (by rw [hinert]; exact Bool.false_ne_true)
  rw [hexec, receiveSettled_eq hrec, receive_new (comes hrec hpeer (formatOk_edge hch hcount)) (.inr hnew), ← hdeliver]
  rfl

/-! ## HOLD at the dispatcher (R41, R42, R44, R45, R59) -/

theorem exec_holdArrival {s : State} {rx : Rx} {ch : Channel} (k : InstNo) (re : Bool) (hrec : Receiving s)
    (hpeer : rx.sender ≠ s.address) (hch : ch ≠ 0) (hnew : NewFrame s rx) :
    exec (.holdArrival rx ch k re) s = .next ((s.heardFrom rx).dispatchHold rx.sender ch k re).settle := by
  have hexec : exec (.holdArrival rx ch k re) s = .next (s.receiveSettled (rxFrame rx ch (.hold k re))) := rfl
  rw [hexec, receiveSettled_eq hrec, receive_new (comes hrec hpeer (formatOk_hold hch)) (.inr hnew)]
  rfl

theorem dispatchHold_of_none {s u : State} {a : Addr} {ch : Channel} {k : InstNo} {snap : List (Fin 32)} (re : Bool)
    (hi : s.inert = false) (hs : s.snapshot .hold a ch = snap) (h : s.takeHold a ch k snap = (u, none)) :
    s.dispatchHold a ch k re = snap.foldl (State.holdStep re none) u := by
  unfold State.dispatchHold
  rw [hi, hs]
  dsimp only
  rw [h]
  rfl

theorem dispatchHold_of_some {s u : State} {a : Addr} {ch : Channel} {k : InstNo} {snap : List (Fin 32)} {j : Fin 8}
    (re : Bool) (hi : s.inert = false) (hs : s.snapshot .hold a ch = snap) (h : s.takeHold a ch k snap = (u, some j)) :
    s.dispatchHold a ch k re = (snap.foldl (State.holdStep re (some j)) u).testRecord j := by
  unfold State.dispatchHold
  rw [hi, hs]
  dsimp only
  rw [h]
  rfl

section
variable {s : State} {a : Addr} {ch : Channel} {k : InstNo} {snap : List (Fin 32)} {j : Fin 8} {r : AcceptRecord}

theorem takeHold_without_duty (hf : s.findRecord a ch = none) (hd : s.dutyList snap = []) :
    s.takeHold a ch k snap = (s, none) := by
  unfold State.takeHold
  rw [hf]
  exact if_pos hd

theorem takeHold_new (hf : s.findRecord a ch = none) (hd : s.dutyList snap ≠ []) (hj : s.freeSlot = some j) :
    s.takeHold a ch k snap = (s.putRecord j a ch k (s.dutyList snap), some j) := by
  unfold State.takeHold
  rw [hf]
  refine (if_neg hd).trans ?_
  rw [hj]

theorem takeHold_overflow (hf : s.findRecord a ch = none) (hd : s.dutyList snap ≠ []) (hj : s.freeSlot = none) :
    s.takeHold a ch k snap = ((s.count .acceptOverflow).latch .acceptOverflow, none) := by
  unfold State.takeHold
  rw [hf]
  refine (if_neg hd).trans ?_
  rw [hj]

theorem takeHold_repeat (hf : s.findRecord a ch = some j) (hr : s.slot j = some r) (hk : r.inst = k) :
    s.takeHold a ch k snap = (s.setSlot j (some r.repeated), none) := by
  unfold State.takeHold
  rw [hf]
  dsimp only
  rw [hr]
  exact if_pos hk

theorem takeHold_ends (hf : s.findRecord a ch = some j) (hr : s.slot j = some r) (hk : r.inst ≠ k)
    (hd : s.dutyList snap = []) : s.takeHold a ch k snap = (s.removeRecord j, none) := by
  unfold State.takeHold
  rw [hf]
  dsimp only
  rw [hr]
  exact (if_neg hk).trans (if_pos hd)

theorem takeHold_supersedes (hf : s.findRecord a ch = some j) (hr : s.slot j = some r) (hk : r.inst ≠ k)
    (hd : s.dutyList snap ≠ []) :
    s.takeHold a ch k snap = ((s.giveUpEntry (.record j)).putRecord j a ch k (s.dutyList snap), some j) := by
  unfold State.takeHold
  rw [hf]
  dsimp only
  rw [hr]
  exact (if_neg hk).trans (if_neg hd)

theorem freeSlot_of_empty (hj : s.slot j = none) (hlt : ∀ i, i < j → s.slot i ≠ none) : s.freeSlot = some j := by
  have hfind : (indices 8).find? (fun i => s.slot i = none) = some j := by
    rw [find?_indices]
    exact ⟨decide_eq_true hj, fun i hi => decide_eq_false (hlt i hi)⟩
  unfold State.freeSlot
  rw [hfind]

/-- Whether slot `i` holds a RELEASED record. -/
def State.releasedAt (s : State) (i : Fin 8) : Bool :=
  match s.slot i with
  | some r => r.state = .released
  | none => false

theorem releasedAt_eq_false (h : ∀ r ∈ s.slot j, r.state ≠ .released) : s.releasedAt j = false := by
  unfold State.releasedAt
  split
  · next r hr => exact decide_eq_false (h r hr)
  · rfl

theorem freeSlot_of_full (hfull : ∀ i, s.slot i ≠ none) : s.freeSlot = s.ageOrder.find? s.releasedAt := by
  have hfind : (indices 8).find? (fun i => s.slot i = none) = none := by
    rw [List.find?_eq_none]
    exact fun i _ => by simpa using hfull i
  unfold State.freeSlot
  rw [hfind]
  rfl

theorem freeSlot_of_released {older newer : List (Fin 8)} (hfull : ∀ i, s.slot i ≠ none)
    (hage : s.ageOrder = older ++ j :: newer) (hr : s.slot j = some r) (hst : r.state = .released)
    (hold : ∀ i ∈ older, ∀ q ∈ s.slot i, q.state ≠ .released) : s.freeSlot = some j := by
  have hj : s.releasedAt j = true := by simp [State.releasedAt, hr, hst]
  rw [freeSlot_of_full hfull, hage, List.find?_append, List.find?_eq_none.2 (fun i hi => by
    rw [releasedAt_eq_false (hold i hi)]; exact Bool.false_ne_true), List.find?_cons_of_pos hj]
  rfl

theorem freeSlot_of_none (hfull : ∀ i, s.slot i ≠ none) (h : ∀ i, ∀ q ∈ s.slot i, q.state ≠ .released) :
    s.freeSlot = none := by
  rw [freeSlot_of_full hfull, List.find?_eq_none]
  intro i _
  rw [releasedAt_eq_false (h i)]
  exact Bool.false_ne_true

theorem findRecord_of_unique (hs : AcceptanceSafe s) (hr : s.slot j = some r) (ha : r.sender = a) (hch : r.channel = ch) :
    s.findRecord a ch = some j := by
  cases hf : s.findRecord a ch with
  | none => exact absurd ⟨ha, hch⟩ (findRecord_eq_none_iff.1 hf j r hr)
  | some i =>
    obtain ⟨q, hq, hqa, hqch⟩ := findRecord_eq_some hf
    exact congrArg some (hs.2.1 i j q hq r hr (hqa.trans ha.symm) (hqch.trans hch.symm))

end

/-- Settles O29: the slot that a new record takes. -/
theorem holdArrivalMakesARecordOrOverflows : Obligations.HoldArrivalMakesARecordOrOverflows := by
  intro s rx ch k re hrec hact hpeer hch hnew hno
  have hinert : (s.heardFrom rx).inert = false := inert_of_acting (s := s) hact
  have hsnap : (s.heardFrom rx).snapshot .hold rx.sender ch = s.snapshot .hold rx.sender ch := rfl
  have hfind : (s.heardFrom rx).findRecord rx.sender ch = none :=
    findRecord_eq_none_iff.2 fun j r hr h => (hno j r hr).elim (fun hn => hn h.1) (fun hn => hn h.2)
  have hput : ∀ j, s.dutyList (s.snapshot .hold rx.sender ch) ≠ [] → (s.heardFrom rx).freeSlot = some j →
      exec (.holdArrival rx ch k re) s = .next ((((s.snapshot .hold rx.sender ch).foldl (State.holdStep re (some j))
        ((s.heardFrom rx).putRecord j rx.sender ch k (s.dutyList (s.snapshot .hold rx.sender ch)))).testRecord j).settle) :=
    fun j hd hj => by
      rw [exec_holdArrival k re hrec hpeer hch hnew,
        dispatchHold_of_some (s := s.heardFrom rx) re hinert hsnap (takeHold_new (s := s.heardFrom rx) hfind hd hj)]
      rfl
  refine ⟨fun hd => ?_, fun j hd hj hlt => ?_, fun j q older newer hd hfull hage hq hst hold => ?_, fun hd hfull hrel => ?_⟩
  · rw [exec_holdArrival k re hrec hpeer hch hnew,
      dispatchHold_of_none (s := s.heardFrom rx) re hinert hsnap (takeHold_without_duty (s := s.heardFrom rx) hfind hd)]
  · exact hput j hd (freeSlot_of_empty (s := s.heardFrom rx) hj hlt)
  · exact hput j hd (freeSlot_of_released (s := s.heardFrom rx) hfull hage hq hst hold)
  · rw [exec_holdArrival k re hrec hpeer hch hnew,
      dispatchHold_of_none (s := s.heardFrom rx) re hinert hsnap
        (takeHold_overflow (s := s.heardFrom rx) hfind hd (freeSlot_of_none (s := s.heardFrom rx) hfull hrel))]
    rfl

/-- Settles O30: the record that the HOLD finds. -/
theorem holdArrivalRepeatsOrSupersedes : Obligations.HoldArrivalRepeatsOrSupersedes := by
  intro s rx ch k re j r hrec hact hpeer hch hnew hsafe hr ha hc
  have hinert : (s.heardFrom rx).inert = false := inert_of_acting (s := s) hact
  have hsnap : (s.heardFrom rx).snapshot .hold rx.sender ch = s.snapshot .hold rx.sender ch := rfl
  have hfind : (s.heardFrom rx).findRecord rx.sender ch = some j := findRecord_of_unique (s := s) hsafe hr ha hc
  have hslot : (s.heardFrom rx).slot j = some r := hr
  refine ⟨fun hk => ?_, fun hk hd => ?_, fun hk hd => ?_⟩
  · rw [exec_holdArrival k re hrec hpeer hch hnew,
      dispatchHold_of_none (s := s.heardFrom rx) re hinert hsnap (takeHold_repeat hfind hslot hk)]
    rfl
  · rw [exec_holdArrival k re hrec hpeer hch hnew,
      dispatchHold_of_none (s := s.heardFrom rx) re hinert hsnap (takeHold_ends (s := s.heardFrom rx) hfind hslot hk hd)]
    rfl
  · rw [exec_holdArrival k re hrec hpeer hch hnew,
      dispatchHold_of_some (s := s.heardFrom rx) re hinert hsnap
        (takeHold_supersedes (s := s.heardFrom rx) hfind hslot hk hd)]
    rfl

/-! ## CLEAR (R48, R61) -/

theorem ident_slot {s t : State} (h : ActKeeps s t) {j : Fin 8} {r : AcceptRecord} (hr : t.slot j = some r) :
    ∃ q, s.slot j = some q ∧ q.sender = r.sender ∧ q.channel = r.channel ∧ q.inst = r.inst := by
  have hj := h.ids j
  rw [hr, Option.map_some] at hj
  obtain ⟨q, hq, hqr⟩ := Option.map_eq_some_iff.1 hj.symm
  simp only [AcceptRecord.ident, Prod.mk.injEq] at hqr
  exact ⟨q, hq, hqr.1, hqr.2.1, hqr.2.2⟩

theorem ident_slot' {s t : State} (h : ActKeeps s t) {j : Fin 8} {r : AcceptRecord} (hr : s.slot j = some r) :
    ∃ q, t.slot j = some q ∧ q.sender = r.sender ∧ q.channel = r.channel ∧ q.inst = r.inst :=
  ident_slot (s := t) (t := s) ⟨h.age.symm, fun i => (h.ids i).symm⟩ hr

theorem closeRecord_of_match {s : State} {a : Addr} {ch : Channel} {k : InstNo} {j : Fin 8} {r : AcceptRecord}
    (hf : s.findRecord a ch = some j) (hr : s.slot j = some r) (hk : r.inst = k) :
    s.closeRecord a ch k = s.removeRecord j := by
  unfold State.closeRecord
  rw [hf]
  dsimp only
  rw [hr]
  exact if_pos hk

theorem closeRecord_of_none {s : State} {a : Addr} {ch : Channel} {k : InstNo}
    (h : ∀ j, ∀ r ∈ s.slot j, r.sender = a → r.channel = ch → r.inst ≠ k) : s.closeRecord a ch k = s := by
  unfold State.closeRecord
  split
  · rfl
  · next j hf =>
    obtain ⟨r, hr, ha, hch⟩ := findRecord_eq_some hf
    rw [hr]
    exact if_neg (h j r hr ha hch)

/-- Settles O31: the clear actions leave the records of the table what they name. -/
theorem clearArrivalRemovesTheRecordOfItsInstance : Obligations.ClearArrivalRemovesTheRecordOfItsInstance := by
  intro s rx ch k hrec hact hpeer hch hnew
  have hinert : (s.heardFrom rx).inert = false := inert_of_acting (s := s) hact
  generalize hu : (s.snapshot .clear rx.sender ch).foldl (fun v n => v.clearAct n) (s.heardFrom rx) = u
  have hexec : exec (.clearArrival rx ch k) s = .next (u.closeRecord rx.sender ch k).settle := by
    have h : exec (.clearArrival rx ch k) s = .next (s.receiveSettled (rxFrame rx ch (.clear k))) := rfl
    have htake : (s.heardFrom rx).takeClear rx.sender ch k = u.closeRecord rx.sender ch k := by
      have hd : (s.heardFrom rx).dispatchClear rx.sender ch = u := by
        rw [← hu]
        exact if_neg (by rw [hinert]; exact Bool.false_ne_true)
      unfold State.takeClear
      rw [hinert, hd]
      rfl
    rw [h, receiveSettled_eq hrec, receive_new (comes hrec hpeer (formatOk_clear hch)) (.inr hnew), ← htake]
    rfl
  have hkeeps : ActKeeps s u := by
    have h := clearActs_actKeeps (s.snapshot .clear rx.sender ch) (s.heardFrom rx)
    rw [hu] at h
    exact ActKeeps.trans (t := s.heardFrom rx) (.of_eq rfl rfl) h
  refine ⟨u, _, rfl, hexec, fun j r hsafe hr ha hc hk => ?_, fun h => ?_⟩
  · obtain ⟨q, hq, hqa, hqc, hqk⟩ := ident_slot' hkeeps hr
    have hfind : u.findRecord rx.sender ch = some j := by
      cases hf : u.findRecord rx.sender ch with
      | none => exact absurd ⟨hqa.trans ha, hqc.trans hc⟩ (findRecord_eq_none_iff.1 hf j q hq)
      | some i =>
        obtain ⟨p, hp, hpa, hpc⟩ := findRecord_eq_some hf
        obtain ⟨p', hp', hpa', hpc', _⟩ := ident_slot hkeeps hp
        exact congrArg some (hsafe.2.1 i j p' hp' r hr (hpa'.trans (hpa.trans ha.symm)) (hpc'.trans (hpc.trans hc.symm)))
    rw [closeRecord_of_match hfind hq (hqk.trans hk)]
    rfl
  · rw [closeRecord_of_none fun j r hr ha hc => ?_]
    obtain ⟨q, hq, hqa, hqc, hqk⟩ := ident_slot hkeeps hr
    rw [← hqk]
    exact h j q hq (hqa.trans ha) (hqc.trans hc)

/-! ## Duties (R42, R43, R59, R60) -/

theorem isDuty_iff (e : Subscription) : e.isDuty = true ↔ e.policy = .immediate ∨ e.policy = .atIdle := by
  simp [Subscription.isDuty]

theorem allDone_iff (r : AcceptRecord) : r.allDone = true ↔ ∀ w ∈ r.duties, w.done = true := by
  simp [AcceptRecord.allDone]

theorem tested_eq (r : AcceptRecord) :
    r.tested = if r.state = .acting ∧ ∀ w ∈ r.duties, w.done = true then { r with state := .releaseOwed } else r := by
  unfold AcceptRecord.tested
  simp only [allDone_iff]

theorem holdStep_duty {s : State} {k : Fin 32} (re : Bool) (h : (s.sub k).isDuty = true) (j : Fin 8) :
    State.holdStep re (some j) s k = (s.act k 1).dutyRan j k ∧ State.holdStep re none s k = s :=
  ⟨if_pos h, if_pos h⟩

theorem State.setSlot_slot_self (s : State) (j : Fin 8) : s.setSlot j (s.slot j) = s := by
  simp only [State.setSlot, State.slot, upd_look_self]

theorem dutyRan_eq (s : State) (j : Fin 8) (k : Fin 32) :
    s.dutyRan j k = s.setSlot j ((s.slot j).map (fun r =>
      { r with duties := r.duties.map (fun d => if d.sub = k then s.ranDuty d else d) })) := by
  unfold State.dutyRan
  split
  · next h =>
    rw [h, Option.map_none, ← h]
    exact (State.setSlot_slot_self s j).symm
  · next r h =>
    rw [h]
    rfl

/-- Settles O32. -/
theorem entryIntoIdleCompletesDuties : Obligations.EntryIntoIdleCompletesDuties := by
  refine ⟨fun s g => ⟨⟨_, rfl⟩, fun j => ⟨fun h => by rw [idleReport_slot, h]; rfl, fun r hr => ?_⟩⟩,
    fun s k re rec => ?_, fun s j snap => ⟨?_, ?_⟩⟩
  · rw [idleReport_slot, hr, Option.map_some, AcceptRecord.atIdle, tested_eq]
    dsimp only
    have hduties : r.duties.map (fun d => d.atIdle g) =
        r.duties.map (fun w => if w.awaiting = true ∧ w.awaited = some g then { w with done := true } else w) := rfl
    rw [hduties]
    split <;> rfl
  · refine ⟨fun h => ?_, fun h hrec => ?_, fun j h hrec => ?_⟩
    · exact if_neg (fun hd => h ((isDuty_iff _).1 hd))
    · rw [hrec]
      exact (holdStep_duty re ((isDuty_iff _).2 h) 0).2
    · rw [hrec, (holdStep_duty re ((isDuty_iff _).2 h) j).1, dutyRan_eq]
      rfl
  · unfold State.testRecord
    exact congrArg (fun f => s.setSlot j ((s.slot j).map f)) (funext tested_eq)
  · unfold State.dutyList State.dutySubs
    congr 2
    refine List.filter_congr fun k _ => ?_
    rw [Bool.eq_iff_iff, isDuty_iff, decide_eq_true_eq]

end Sys2Proof.Machine
end

section
/-! PROOF. The purge, and the beacon interval at a station whose list holds a PRESENCE that is not the beacon's (R47, R50,
R57, R69, R131, R152–R154, R158). -/

namespace Sys2Proof.Machine

/-! ## An operation run once for every index -/

theorem foldl_rel_of_mem {α : Type} {R : State → State → Prop} (refl : ∀ s, R s s)
    (trans : ∀ {s t u}, R s t → R t u → R s u) (f : State → α → State) (l : List α) (h : ∀ a ∈ l, ∀ s, R s (f s a))
    (s : State) : R s (l.foldl f s) := by
  induction l generalizing s with
  | nil => exact refl s
  | cons a l ih =>
    exact trans (h a (by simp) s) (ih (fun b hb => h b (by simp [hb])) (f s a))

/-- The run is one at the index `i`, between runs at other indices. -/
theorem forEach_split {n : Nat} (f : Fin n → State → State) (i : Fin n) : ∃ before after : List (Fin n),
    (∀ x ∈ before, x ≠ i) ∧ (∀ x ∈ after, x ≠ i) ∧
      ∀ s, forEach f s = after.foldl (fun t x => f x t) (f i (before.foldl (fun t x => f x t) s)) := by
  obtain ⟨before, after, hl⟩ := List.append_of_mem (mem_indices i)
  have hnodup : (before ++ i :: after).Nodup := hl ▸ List.nodup_finRange n
  obtain ⟨_, hcons, hdisj⟩ := List.nodup_append.1 hnodup
  refine ⟨before, after, fun x hx => hdisj x hx i (by simp), fun x hx hxi => ?_, fun s => ?_⟩
  · exact (List.nodup_cons.1 hcons).1 (hxi ▸ hx)
  · rw [forEach, hl, List.foldl_append]
    rfl

/-! ## The purge (R47, R50, R57, R69) -/

theorem purgeActions_eq (s : State) (d : List Duty) :
    s.purgeActions d = if s.bus.station = .conflict then s else d.foldl (fun t w => t.clearAct w.sub) s := by
  unfold State.purgeActions State.inert
  simp only [decide_eq_true_eq]

theorem purgeActions_actKeeps (s : State) (d : List Duty) : ActKeeps s (s.purgeActions d) := by
  rw [purgeActions_eq]
  split
  · exact .refl s
  · exact foldl_rel ActKeeps.refl ActKeeps.trans _ (fun t (w : Duty) => clearAct_actKeeps t w.sub) d s

theorem purgeSlot_of_none {s : State} {j : Fin 8} (a : Addr) (h : s.slot j = none) : s.purgeSlot a j = s := by
  unfold State.purgeSlot
  rw [h]

theorem purgeSlot_of_some {s : State} {j : Fin 8} {r : AcceptRecord} (a : Addr) (h : s.slot j = some r) :
    s.purgeSlot a j = if r.sender = a then (s.purgeActions r.duties).removeRecord j else s := by
  unfold State.purgeSlot
  rw [h]

/-- The record of slot `j` stays, and with it its place in the age order. -/
structure KeepsSlot (j : Fin 8) (s t : State) : Prop where
  ids : (t.slot j).map AcceptRecord.ident = (s.slot j).map AcceptRecord.ident
  age : j ∈ t.ageOrder ↔ j ∈ s.ageOrder

theorem KeepsSlot.refl (j : Fin 8) (s : State) : KeepsSlot j s s := ⟨rfl, .rfl⟩

theorem KeepsSlot.trans {j : Fin 8} {s t u : State} (h : KeepsSlot j s t) (k : KeepsSlot j t u) : KeepsSlot j s u :=
  ⟨k.ids.trans h.ids, k.age.trans h.age⟩

theorem ActKeeps.keepsSlot {s t : State} (h : ActKeeps s t) (j : Fin 8) : KeepsSlot j s t := ⟨h.ids j, by rw [h.age]⟩

theorem removeRecord_keepsSlot (s : State) {i j : Fin 8} (h : i ≠ j) : KeepsSlot j s (s.removeRecord i) := by
  refine ⟨?_, ?_⟩
  · have hslot : (s.removeRecord i).slot j = s.slot j := by
      change look (upd s.slots i none) j = _
      rw [look_upd_ne _ _ h]
      rfl
    rw [hslot]
  · change j ∈ s.ageOrder.filter (fun x => x != i) ↔ _
    simp [Ne.symm h]

theorem purgeSlot_keepsSlot (s : State) (a : Addr) {i j : Fin 8} (h : i ≠ j) : KeepsSlot j s (s.purgeSlot a i) := by
  cases hi : s.slot i with
  | none => rw [purgeSlot_of_none a hi]; exact .refl j s
  | some r =>
    rw [purgeSlot_of_some a hi]
    split
    · exact ((purgeActions_actKeeps s r.duties).keepsSlot j).trans (removeRecord_keepsSlot _ h)
    · exact .refl j s

/-- A purge is one of slot `j` between purges of other slots. -/
theorem purge_split (s : State) (a : Addr) (j : Fin 8) : ∃ t, KeepsSlot j s t ∧ KeepsSlot j (t.purgeSlot a j) (s.purge a) := by
  obtain ⟨before, after, hb, ha, heq⟩ := forEach_split (fun i t => State.purgeSlot t a i) j
  refine ⟨before.foldl (fun t x => t.purgeSlot a x) s, ?_, ?_⟩
  · exact foldl_rel_of_mem (KeepsSlot.refl j) KeepsSlot.trans _ before (fun x hx t => purgeSlot_keepsSlot t a (hb x hx)) s
  · rw [show s.purge a = _ from heq s]
    exact foldl_rel_of_mem (KeepsSlot.refl j) KeepsSlot.trans _ after (fun x hx t => purgeSlot_keepsSlot t a (ha x hx)) _

theorem KeepsSlot.some {j : Fin 8} {s t : State} (h : KeepsSlot j s t) {r : AcceptRecord} (hr : s.slot j = some r) :
    ∃ q, t.slot j = some q ∧ q.ident = r.ident := by
  have h := h.ids
  rw [hr, Option.map_some] at h
  exact Option.map_eq_some_iff.1 h

theorem KeepsSlot.none {j : Fin 8} {s t : State} (h : KeepsSlot j s t) (hr : s.slot j = none) : t.slot j = none := by
  have h := h.ids
  rwa [hr, Option.map_none, Option.map_eq_none_iff] at h

theorem giveUp_of_none {p : Producer} {l : List TxEntry} (h : ∀ e ∈ l, e.producer ≠ p) : giveUp p l = l := by
  induction l with
  | nil => rfl
  | cons e l ih =>
    rw [giveUp, if_neg (h e (by simp)), ih fun f hf => h f (by simp [hf])]

theorem giveUp_append {p : Producer} {l : List TxEntry} (h : ∀ e ∈ l, e.producer ≠ p) (m : List TxEntry) :
    giveUp p (l ++ m) = l ++ giveUp p m := by
  induction l with
  | nil => rfl
  | cons e l ih =>
    rw [List.cons_append, giveUp, if_neg (h e (by simp)), ih fun f hf => h f (by simp [hf])]
    rfl

/-- Settles O48. -/
theorem purgeRemovesTheSendersRecords : Obligations.PurgeRemovesTheSendersRecords := by
  refine ⟨fun s a j => ?_, fun s a => ⟨rfl, fun j r hr => ?_⟩, fun p l l' e hl he => ⟨giveUp_of_none hl, fun hw => ?_, fun hb => ?_⟩⟩
  · obtain ⟨t, hbefore, hafter⟩ := purge_split s a j
    refine ⟨fun r hr ha => ?_, fun r hr ha => ?_, fun hnone => ?_⟩
    · obtain ⟨q, hq, hid⟩ := hbefore.some hr
      have hqa : q.sender = a := (congrArg Prod.fst hid).trans ha
      rw [purgeSlot_of_some a hq, if_pos hqa] at hafter
      refine ⟨hafter.none (look_upd_self _ _ _), fun hmem => ?_⟩
      have hmem := hafter.age.1 hmem
      exact (mem_filter_ne.1 (show j ∈ (State.ageOrder _).filter (fun x => x != j) from hmem)).2 rfl
    · obtain ⟨q, hq, hid⟩ := hbefore.some hr
      have hqa : q.sender ≠ a := fun h => ha ((congrArg Prod.fst hid).symm.trans h)
      rw [purgeSlot_of_some a hq, if_neg hqa] at hafter
      obtain ⟨x, hx, hxid⟩ := (hbefore.trans hafter).some hr
      simp only [AcceptRecord.ident, Prod.mk.injEq] at hxid
      exact ⟨x, hx, hxid.1, hxid.2.1, hxid.2.2⟩
    · rw [purgeSlot_of_none a (hbefore.none hnone)] at hafter
      exact (hbefore.trans hafter).none hnone
  · rw [purgeSlot_of_some a hr, purgeActions_eq]
    rfl
  · rw [giveUp_append hl, giveUp, if_pos he, if_neg (by simp [hw])]
  · rw [giveUp_append hl, giveUp, if_pos he, if_pos hb]

/-! ## The beacon interval

The statement takes it that a purge leaves the PRESENCE in the list. It says so of every state, and a state can hold an
entry of kind PRESENCE whose producer is an acceptance record: the purge of that record gives the entry up, so the beacon
decides on a list without a PRESENCE and owes one. -/

/-- A JOINED station with a record of a peer that goes LOST, and a PRESENCE in the list in that record's name. -/
def recordsPresence : State :=
  { State.reset with
    bus := { BusInterface.reset with station := .joined }
    beacon := { Beacon.reset with timer := some 0 }
    roster := upd State.reset.roster 1
      { state := .present, silence := 2, lastSeq := none, signature := none, freshJoins := 0 }
    slots := upd State.reset.slots 0
      (some { sender := 1, channel := 1, inst := 0, duties := [], state := .acting, releaseListed := false })
    tx := [TxEntry.fresh .presence 0 none (.record 0)] }

/-- The state that an answer carries, if it carries one. -/
def stateOf (s : State) (r : Result) : State :=
  match r with
  | .next t => t
  | .fault _ | .refused _ => s

/-- The station after the expiry. -/
def recordsPresenceAfter : State := stateOf recordsPresence (exec .beaconIntervalExpiry recordsPresence)

/-- The model admits a PRESENCE of the beacon. -/
theorem recordsPresenceAfter_tx : recordsPresenceAfter.tx.map TxEntry.producer = [.beacon] := by decide +kernel

theorem settle_roster (s : State) : s.settle.roster = s.roster := by
  obtain ⟨_, _, _, _, _, _, _, _, h⟩ := settle_side s
  rw [h]

/-- Refutes O49: at `recordsPresence` the purge takes the only PRESENCE out of the list before the beacon decides. -/
theorem not_beaconExpiryAgesTheRoster : ¬ Obligations.BeaconExpiryAgesTheRoster := by
  intro h
  obtain ⟨u, t, hexec, ht, _, _, _, _, ⟨_, _, hpurge⟩, _⟩ := h recordsPresence 0 rfl
  have hu := hpurge (by decide +kernel)
  have hafter : t = recordsPresenceAfter := by rw [recordsPresenceAfter, hexec]; rfl
  have hroster : u.roster = recordsPresenceAfter.roster := by rw [← hafter, ht, settle_roster]
  rw [hroster] at hu
  have htx : recordsPresenceAfter.tx = [] := by
    rw [← hafter, ht, hu]
    decide +kernel
  have hlisted := recordsPresenceAfter_tx
  rw [htx] at hlisted
  cases hlisted

end Sys2Proof.Machine
end

section
/-! PROOF. Releases, waivers and the quorum at the owner of a hold (R26, R30, R31, R34, R39). -/

namespace Sys2Proof.Machine

/-! ## The quorum (R26, R28, R31, R39) -/

theorem quorumMet_of_zero {e : SourceEntry} (h : e.quorum = 0) :
    e.quorumMet = true ↔ ∀ a ∈ e.required, a ∈ e.received := by
  unfold SourceEntry.quorumMet
  rw [if_pos h]
  simp

theorem quorumMet_of_number {e : SourceEntry} (h : e.quorum ≠ 0) :
    e.quorumMet = true ↔ e.quorum.toNat ≤ e.received.length := by
  unfold SourceEntry.quorumMet
  rw [if_neg h, decide_eq_true_eq]

/-! ## A release at the table (R30) -/

section
variable {s : State} {i : Fin 16} {a : Addr} {ch : Channel} {k : InstNo}

theorem takeRelease_of_no_entry (h : ∀ i, (s.source i).isHold = true → (s.source i).channel ≠ ch) :
    s.takeRelease a ch s.address k = s.count .staleReleases := by
  have hnone : s.holdEntryOn ch = none := by
    simp only [State.holdEntryOn, List.find?_eq_none, Bool.and_eq_true, decide_eq_true_eq, not_and]
    exact fun i _ hi => h i hi
  unfold State.takeRelease
  rw [if_neg (fun hn => hn rfl), hnone]

theorem takeRelease_of_entry (hi : (s.source i).isHold = true) (hch : (s.source i).channel = ch)
    (hbefore : ∀ j, j < i → (s.source j).isHold = true → (s.source j).channel ≠ ch) :
    s.takeRelease a ch s.address k = s.releaseAt i a k := by
  have hfind : s.holdEntryOn ch = some i := by
    unfold State.holdEntryOn
    rw [find?_indices]
    refine ⟨by simp [hi, hch], fun j hj => ?_⟩
    rw [Bool.eq_false_iff, Ne, Bool.and_eq_true, decide_eq_true_eq]
    exact fun h => hbefore j hj h.1 h.2
  unfold State.takeRelease
  rw [if_neg (fun hn => hn rfl), hfind]

theorem releaseAt_of_other_inst (h : (s.source i).inst ≠ k) : s.releaseAt i a k = s.count .staleReleases := if_pos h

theorem releaseAt_of_closed (h : (s.source i).inst = k)
    (hst : (s.source i).holdState = .quiet ∨ (s.source i).holdState = .ending) :
    s.releaseAt i a k = s.count .staleReleases :=
  (if_neg (not_not_intro h)).trans (if_pos hst)

theorem releaseAt_of_satisfied (h : (s.source i).inst = k) (hst : (s.source i).holdState = .satisfied) :
    s.releaseAt i a k = s :=
  (if_neg (not_not_intro h)).trans ((if_neg (by simp [hst])).trans (if_pos hst))

/-- The awaited number is still open: a release is judged by the releaser list and the set received. -/
theorem releaseAt_of_open (h : (s.source i).inst = k) (hst : (s.source i).holdState = .announcing ∨
    (s.source i).holdState = .awaiting ∨ (s.source i).holdState = .orphaned) :
    s.releaseAt i a k =
      if (s.source i).quorum = 0 ∧ (s.source i).lists a = false then s.count .staleReleases
      else if a ∈ (s.source i).received ∨ 4 ≤ (s.source i).received.length then s
      else
        let t := s.setSource i { s.source i with received := addrInsert a (s.source i).received }
        if (s.source i).announced then t.testQuorum i else t := by
  have hopen : ¬((s.source i).holdState = .quiet ∨ (s.source i).holdState = .ending) ∧
      ¬(s.source i).holdState = .satisfied := by
    rcases hst with hst | hst | hst <;> simp [hst]
  unfold State.releaseAt
  dsimp only
  rw [if_neg (not_not_intro h), if_neg hopen.1, if_neg hopen.2]
  simp only [List.contains_iff_mem]
  split
  · rfl
  · by_cases ha : a ∈ (s.source i).received
    · rw [if_pos ha, if_pos (.inl ha)]
    · rw [if_neg ha]
      by_cases hl : 4 ≤ (s.source i).received.length
      · rw [if_pos hl, if_pos (.inr hl)]
      · rw [if_neg hl, if_neg (not_or.2 ⟨ha, hl⟩)]

theorem lists_iff (e : SourceEntry) (a : Addr) : e.lists a = true ↔ some a ∈ e.releasers.toList := by
  simp [SourceEntry.lists]

end

/-- Settles O17, by the rows of the table. -/
theorem releaseIsJudgedByTheTable : Obligations.ReleaseIsJudgedByTheTable := by
  intro s a ch k
  refine ⟨fun owner ho => if_pos ho, takeRelease_of_no_entry, fun i hi hch hbefore => ?_⟩
  dsimp only
  rw [takeRelease_of_entry hi hch hbefore]
  refine ⟨releaseAt_of_other_inst, releaseAt_of_closed, releaseAt_of_satisfied, fun hk hst => ?_⟩
  rw [releaseAt_of_open hk hst]
  refine ⟨fun hq hl => ?_, fun hl => ⟨fun hr => ?_, fun hr hlen hann => ?_, fun hr hlen hann => ?_⟩⟩
  · exact if_pos ⟨hq, Bool.eq_false_iff.2 fun h => hl ((lists_iff _ _).1 h)⟩
  all_goals
    have hlisted : ¬((s.source i).quorum = 0 ∧ (s.source i).lists a = false) := fun h =>
      hl.elim (fun hq => hq h.1) (fun hm => by rw [(lists_iff _ _).2 hm] at h; cases h.2)
  · rw [if_neg hlisted, if_pos hr]
  · rw [if_neg hlisted, if_neg (not_or.2 ⟨hr, by omega⟩)]
    exact if_neg (by simp [hann])
  · rw [if_neg hlisted, if_neg (not_or.2 ⟨hr, by omega⟩)]
    exact if_pos hann

/-! ## The quorum met, and a LOST report (R31, R34, R39) -/

/-- The entry whose quorum is met, in a station at time `now` (R31, R34). -/
def SourceEntry.met (e : SourceEntry) (s : State) : SourceEntry :=
  if e.dropNoted then { e with holdState := .ending, dropNoted := false, releaseTimer := none }
  else if e.repeatFlag then
    if e.repeatDelay = 0 then
      { e with
        inst := e.inst + 1, received := [], required := s.requiredFor e, reannounces := 0, announced := false,
        dropNoted := false, predOpen := true, releaseTimer := none, repeatTimer := none, holdState := .announcing }
    else
      { e with
        holdState := .satisfied, releaseTimer := none, repeatTimer := some (s.time + e.repeatDelay.toNat * oneMs) }
  else { e with holdState := .satisfied, releaseTimer := none, repeatTimer := none }

theorem quorumReached_eq (s : State) (i : Fin 16) :
    s.quorumReached i = ((s.giveUpEntry (.source i)).setSource i ((s.source i).met s)).refreshOrphaned := by
  unfold State.quorumReached SourceEntry.met
  dsimp only
  split
  · rfl
  · split
    · split
      · unfold State.startInst
        dsimp only
        rw [State.source_setSource_self, State.setSource_setSource]
        rfl
      · rfl
    · rfl

theorem refreshOrphaned_orphaned (s : State) :
    s.refreshOrphaned.faults.orphaned = true ↔ ∃ j, (s.source j).holdState = .orphaned := by
  have h : s.refreshOrphaned.faults.orphaned = (indices 16).any (fun i => (s.source i).holdState = .orphaned) := rfl
  rw [h]
  simp

theorem waives_iff (e : SourceEntry) (a : Addr) : e.waives a = true ↔
    e.isHold = true ∧ e.quorum = 0 ∧ e.waiveLost = true ∧ a ∈ e.required ∧
      (e.holdState = .announcing ∨ e.holdState = .awaiting ∨ e.holdState = .orphaned) := by
  simp [SourceEntry.waives, and_assoc, or_assoc]

theorem waiveAt_of_not {s : State} {i : Fin 16} {a : Addr} (h : (s.source i).waives a = false) : s.waiveAt i a = s :=
  if_neg (by rw [h]; exact Bool.false_ne_true)

theorem waiveAt_of_waives {s : State} {i : Fin 16} {a : Addr} (h : (s.source i).waives a = true) :
    s.waiveAt i a =
      let t := s.setSource i { s.source i with required := (s.source i).required.filter (fun b => b != a) }
      if (s.source i).holdState = .announcing ∧ (s.source i).announced = false then t else t.testQuorum i := by
  refine (if_pos h).trans ?_
  simp only [Bool.and_eq_true, decide_eq_true_eq, Bool.not_eq_true']

/-- Settles O18. -/
theorem quorumMetSatisfiesTheHold : Obligations.QuorumMetSatisfiesTheHold := by
  refine ⟨fun s i => ?_, fun e => ⟨quorumMet_of_zero, quorumMet_of_number⟩, fun s i a => ?_⟩
  · have hsrc : (s.quorumReached i).source i = (s.source i).met s := by
      rw [quorumReached_eq]
      exact look_upd_self _ _ _
    have hother : ∀ j, j ≠ i → (s.quorumReached i).source j = s.source j := fun j hj => by
      rw [quorumReached_eq]
      exact look_upd_ne _ _ (Ne.symm hj)
    have htimer : ((s.source i).met s).releaseTimer = none := by
      unfold SourceEntry.met
      split
      · rfl
      · split
        · split <;> rfl
        · rfl
    dsimp only
    rw [hsrc]
    refine ⟨by rw [quorumReached_eq]; rfl, htimer, hother, ?_, fun hd => ?_, fun hd hr => ?_, fun hd hr hz => ?_, fun hd hr hz => ?_⟩
    · rw [quorumReached_eq]
      exact refreshOrphaned_orphaned _
    · simp [SourceEntry.met, hd]
    · simp [SourceEntry.met, hd, hr]
    · simp only [SourceEntry.met, hd, hr, hz, Bool.false_eq_true, if_false, if_true]
      exact ⟨trivial, trivial, rfl, trivial⟩
    · simp [SourceEntry.met, hd, hr, hz]
  · dsimp only
    simp only [← waives_iff]
    refine ⟨fun h => waiveAt_of_not (Bool.eq_false_iff.2 h), fun h hst hann => ?_, fun h hst => ?_⟩
    · rw [waiveAt_of_waives h]
      exact if_pos ⟨hst, hann⟩
    · rw [waiveAt_of_waives h]
      refine (if_neg fun hh => ?_).trans rfl
      rcases hst with hst | hst
      · exact hst hh.1
      · rw [hst] at hh
        cases hh.2

end Sys2Proof.Machine
end

section
/-! PROOF. The ends of the phases of a generator, stops, and the claims and actions (R64–R69, R74–R79, R85–R91, R97, R98,
R100). -/

namespace Sys2Proof.Machine

/-! ## A claim given back, a run ended, the busy level read (R8, R78, R85, R91, R98) -/

/-- The lines once the claim of generator `g` is released. -/
def State.freedOuts (s : State) (g : Fin 8) : Vector OutputLine 8 :=
  match (s.gen g).target with
  | none => s.outs
  | some o => if (s.out o).owner = some g then upd s.outs o { s.out o with owner := none } else s.outs

theorem dropClaim_eq (s : State) (g : Fin 8) : s.dropClaim g = { s with outs := s.freedOuts g } := by
  cases ht : (s.gen g).target with
  | none => simp only [State.dropClaim, State.freedOuts, ht]
  | some o =>
    simp only [State.dropClaim, State.freedOuts, State.releaseLine, ht]
    split <;> rfl

theorem endRun_eq (s : State) (g : Fin 8) :
    s.endRun g = State.idleReport { s with outs := s.freedOuts g, gens := upd s.gens g (s.gen g).ended } g := by
  unfold State.endRun
  dsimp only
  rw [dropClaim_eq]
  rfl

theorem presentBusy_of_busy {s : State} {g : Fin 8} (h : (s.gen g).phase ≠ .idle) :
    s.presentBusy g = s.presentLevel (.generator g) true := by
  have hb : (s.gen g).busy = true := by simpa [Generator.busy] using h
  unfold State.presentBusy
  rw [hb]

theorem presentBusy_of_idle {s : State} {g : Fin 8} (h : (s.gen g).phase = .idle) :
    s.presentBusy g = s.presentLevel (.generator g) false := by
  have hb : (s.gen g).busy = false := by simp [Generator.busy, h]
  unfold State.presentBusy
  rw [hb]

theorem presentLevel_gens (s : State) (o : Origin) (b : Bool) : (s.presentLevel o b).gens = s.gens := by
  obtain ⟨⟨_, _, _, h⟩, _⟩ := presentLevel_levelSide s o b
  rw [h]

theorem presentLevel_gen (s : State) (o : Origin) (b : Bool) (g : Fin 8) : (s.presentLevel o b).gen g = s.gen g := by
  rw [State.gen, presentLevel_gens]
  rfl

theorem presentLevel_out (s : State) (o : Origin) (b : Bool) (x : Fin 8) : (s.presentLevel o b).out x = s.out x := by
  obtain ⟨⟨_, _, _, h⟩, _⟩ := presentLevel_levelSide s o b
  rw [h]
  rfl

theorem presentLevel_tallies (s : State) (o : Origin) (b : Bool) : (s.presentLevel o b).tallies = s.tallies := by
  obtain ⟨⟨_, _, _, h⟩, _⟩ := presentLevel_levelSide s o b
  rw [h]

theorem presentLevel_slot (s : State) (o : Origin) (b : Bool) (j : Fin 8) : (s.presentLevel o b).slot j = s.slot j := by
  obtain ⟨⟨_, _, _, h⟩, _⟩ := presentLevel_levelSide s o b
  rw [h]
  rfl

theorem freedOuts_owner (s : State) {g o : Fin 8} (h : (s.gen g).target = some o) :
    look (s.freedOuts g) o = { s.out o with owner := if (s.out o).owner = some g then none else (s.out o).owner } := by
  unfold State.freedOuts
  rw [h]
  dsimp only
  split
  · rw [look_upd_self]
  · rfl

theorem freedOuts_other (s : State) {g o : Fin 8} (h : (s.gen g).target ≠ some o) : look (s.freedOuts g) o = s.out o := by
  unfold State.freedOuts
  split
  · rfl
  · next p hp =>
    split
    · exact look_upd_ne _ _ (fun hpo => h (hp.trans (congrArg some hpo)))
    · rfl

/-! ## Stops and selections (R85, R86, R88, R89) -/

theorem stopGen_of_running {s : State} {g : Fin 8} (h : (s.gen g).phase ≠ .idle) :
    s.stopGen g = (s.endRun g).presentLevel (.generator g) false := by
  refine (if_neg h).trans (presentBusy_of_idle ?_)
  rw [endRun_gen]
  rfl

/-- A duty that a report of `g` leaves awaiting `g` is done. -/
theorem atIdle_done {r : AcceptRecord} {g : Fin 8} {w : Duty} (hw : w ∈ (r.atIdle g).duties) (ha : w.awaiting = true)
    (hg : w.awaited = some g) : w.done = true := by
  have hmem : w ∈ r.duties.map (fun d => d.atIdle g) := by
    unfold AcceptRecord.atIdle AcceptRecord.tested at hw
    split at hw <;> exact hw
  obtain ⟨d, _, rfl⟩ := List.mem_map.1 hmem
  unfold Duty.atIdle at ha hg ⊢
  split
  · rfl
  · next hn =>
    rw [if_neg hn] at ha hg
    exact absurd ⟨ha, hg⟩ hn

/-- Settles O22. -/
theorem stopAndSelectActOnTheRun : Obligations.StopAndSelectActOnTheRun := by
  intro s g p
  refine ⟨fun h => ⟨if_pos h, if_pos h⟩, fun h => ?_⟩
  have hstop := stopGen_of_running h
  refine ⟨if_neg h, stopAll_eq s, ?_, ?_, fun o ho => ?_, ?_, fun j r hr w hw ha hg => ?_⟩
  · rw [hstop, endRun_eq]
    rfl
  · rw [hstop, presentLevel_gen, endRun_gen]
    rfl
  · have hout : (s.endRun g).out o = look (s.freedOuts g) o := by
      rw [endRun_eq]
      rfl
    rw [hstop, presentLevel_out, hout, freedOuts_owner s ho]
    dsimp only
    split
    · simp
    · next hn => exact hn
  · rw [hstop, presentLevel_tallies, endRun_eq]
    rfl
  · rw [hstop, presentLevel_slot, endRun_eq, idleReport_slot] at hr
    obtain ⟨q, _, rfl⟩ := Option.map_eq_some_iff.1 hr
    exact atIdle_done hw ha hg

/-! ## Claims and actions (R64–R69, R97, R98, R100) -/

theorem target4_castLE (y : Fin 4) : target4 (y.castLE (by decide)) = some y := by
  revert y
  decide

/-- Settles O24. -/
theorem claimsReleasesAndStaticLevels : Obligations.ClaimsReleasesAndStaticLevels := by
  refine ⟨fun s o g => ⟨fun h => ?_, fun x h => ?_, fun h => if_pos h, fun h => if_neg h⟩,
    fun s x y target sel n => ?_, fun s k n => ⟨rfl, fun g hc => ?_, fun hc => ?_⟩⟩
  · unfold State.claim
    rw [h]
  · have hclaim : s.claim o g = ((s.count .collisions).latch .collision, false) := by
      unfold State.claim
      rw [h]
    rw [hclaim]
    exact ⟨rfl, rfl, rfl, look_upd_self _ _ _, rfl⟩
  · have hfour := target4_castLE y
    refine ⟨?_, rfl, rfl, fun p hp => by rw [hp]; rfl, rfl, rfl, rfl, ?_, ?_, ?_, ?_⟩
    · unfold State.runAction
      cases target <;> rfl
    all_goals
      unfold State.runAction
      dsimp only
      rw [hfour]
  · unfold State.clearAct
    rw [hc]
    rfl
  · unfold State.clearAct State.runAction
    dsimp only
    split
    · rfl
    · split <;> first | rfl | exact absurd ‹_› hc

/-! ## DELAY_EXPIRY and GAP_EXPIRY (R76, R77, R79, R97) -/

/-- A pulse starts at a station whose generator `g` is about to be `e`. -/
theorem startPulse_at {s : State} {g : Fin 8} (e : Generator) :
    (e.target = none → (s.setGen g e).startPulse g =
      s.setGen g (e.pulsing (some (s.time + e.active.width.toNat * e.active.unit.us)) false)) ∧
    (∀ o, e.target = some o → (s.out o).owner = none → (s.setGen g e).startPulse g =
      (s.setOut o { s.out o with owner := some g }).setGen g
        (e.pulsing (some (s.time + e.active.width.toNat * e.active.unit.us)) false)) ∧
    (∀ o h, e.target = some o → (s.out o).owner = some h → (s.setGen g e).startPulse g =
      ((s.count .collisions).latch .collision).setGen g
        (e.pulsing (some (s.time + e.active.width.toNat * e.active.unit.us)) true)) := by
  have hgen : (s.setGen g e).gen g = e := State.gen_setGen_self s g e
  have hwidth : (s.setGen g e).widthTimer g = some (s.time + e.active.width.toNat * e.active.unit.us) := by
    rw [State.widthTimer, hgen]
    rfl
  refine ⟨fun ht => ?_, fun o ht ho => ?_, fun o h ht ho => ?_⟩
  · rw [startPulse_of_no_target (by rw [hgen]; exact ht), hgen, hwidth, State.setGen_setGen]
  · rw [startPulse_of_free (by rw [hgen]; exact ht) (show ((s.setGen g e).out o).owner = none from ho), hgen, hwidth]
    simp only [State.setGen, State.setOut, State.out, upd_upd]
  · rw [startPulse_of_taken (by rw [hgen]; exact ht) (show ((s.setGen g e).out o).owner = some h from ho), hgen, hwidth]
    simp only [State.setGen, State.count, State.latch, State.setTally, State.setFaults, State.tally, upd_upd]

/-- A generator before the pulse that follows its delay or its gap: at the end of a gap a pending profile is copied
(R76, R79). -/
def Generator.beforePulse (e : Generator) (profiles : Vector Profile 16) : Generator :=
  match e.phase, e.pendingProfile with
  | .gap, some p => { e with active := look profiles p, activeNumber := p, pendingProfile := none }
  | _, _ => e

theorem beforePulse_of_delay {e : Generator} (profiles : Vector Profile 16) (h : e.phase = .delay) :
    e.beforePulse profiles = e := by
  unfold Generator.beforePulse
  rw [h]

theorem beforePulse_of_gap {e : Generator} (profiles : Vector Profile 16) (h : e.phase = .gap) :
    e.beforePulse profiles = e.applied profiles := by
  unfold Generator.beforePulse Generator.applied
  rw [h]
  cases e.pendingProfile <;> rfl

theorem beforePulse_target (e : Generator) (profiles : Vector Profile 16) : (e.beforePulse profiles).target = e.target := by
  unfold Generator.beforePulse
  split <;> rfl

/-- Settles O19: either command starts a pulse of the generator, with the pending profile copied at a gap's end. -/
theorem delayAndGapExpiryStartAPulse : Obligations.DelayAndGapExpiryStartAPulse := by
  intro s g d c htimer hc
  have hexec : exec c s = .next (((s.setTime (max s.time d)).setGen g ((s.gen g).beforePulse s.profiles)).startPulse g) := by
    rcases hc with ⟨rfl, hphase⟩ | ⟨rfl, hphase⟩
    · have h : exec (.delayExpiry g) s = .next ((s.reach (s.gen g).timer).delayEnds g) := if_pos hphase
      rw [h, reach_eq htimer, beforePulse_of_delay _ hphase, State.delayEnds]
      exact congrArg (fun t : State => Host.Outcome.next (t.startPulse g))
        (State.setGen_gen_self (s.setTime (max s.time d)) g).symm
    · have h : exec (.gapExpiry g) s = .next ((s.reach (s.gen g).timer).gapEnds g) := if_pos hphase
      rw [h, reach_eq htimer, beforePulse_of_gap _ hphase, State.gapEnds, applyPending_eq]
      rfl
  have htarget := beforePulse_target (s.gen g) s.profiles
  obtain ⟨hnone, hfree, htaken⟩ := startPulse_at (s := s.setTime (max s.time d)) (g := g) ((s.gen g).beforePulse s.profiles)
  refine ⟨fun ht => ?_, fun o ht ho => ?_, fun o h ht ho => ?_⟩
  · rw [hexec, hnone (htarget.trans ht)]
    rfl
  · rw [hexec, hfree o (htarget.trans ht) ho]
    rfl
  · rw [hexec, htaken o h (htarget.trans ht) ho]
    rfl

end Sys2Proof.Machine
end

section
/-! PROOF. The end of a pulse, and triggers (R8, R75–R84, R91, R97, R98). -/

namespace Sys2Proof.Machine

/-! ## The start of a run (R75, R77, R97) -/

theorem applied_target (e : Generator) (v : Vector Profile 16) : (e.applied v).target = e.target := by
  unfold Generator.applied
  split <;> rfl

theorem applied_policy (e : Generator) (v : Vector Profile 16) : (e.applied v).policy = e.policy := by
  unfold Generator.applied
  split <;> rfl

theorem applied_pendingProfile (e : Generator) (v : Vector Profile 16) : (e.applied v).pendingProfile = none := by
  unfold Generator.applied
  split
  · assumption
  · rfl

section
variable {s : State} {g : Fin 8}

/-- A run without a delay starts with a pulse. -/
theorem startRun_cases (h : ((s.gen g).applied s.profiles).active.delay = 0) :
    let e := (s.gen g).running s.profiles
    let t : Timer := some (s.time + e.active.width.toNat * e.active.unit.us)
    (e.target = none → s.startRun g = s.setGen g (e.pulsing t false)) ∧
    (∀ o, e.target = some o → (s.out o).owner = none →
      s.startRun g = (s.setOut o { s.out o with owner := some g }).setGen g (e.pulsing t false)) ∧
    (∀ o x, e.target = some o → (s.out o).owner = some x →
      s.startRun g = ((s.count .collisions).latch .collision).setGen g (e.pulsing t true)) := by
  rw [startRun_of_no_delay h]
  exact startPulse_at _

/-- What the start of a run leaves and what it makes of its generator and its line. -/
structure Started (s : State) (g : Fin 8) (t : State) : Prop where
  gen : ∃ p tm sh, t.gen g = { (s.gen g).running s.profiles with phase := p, timer := tm, shadowed := sh } ∧ p ≠ .idle
  others : ∀ x, x ≠ g → t.gen x = s.gen x
  lines : ∀ o, (s.gen g).target ≠ some o → t.out o = s.out o
  claim : (t.gen g).phase ≠ .pulse → t.outs = s.outs
  missed : t.tally .missedTriggers = s.tally .missedTriggers

theorem startRun_started (s : State) (g : Fin 8) : Started s g (s.startRun g) := by
  have htarget : ((s.gen g).running s.profiles).target = (s.gen g).target := applied_target _ _
  by_cases hd : ((s.gen g).applied s.profiles).active.delay = 0
  · obtain ⟨hnone, hfree, htaken⟩ := startRun_cases hd
    cases ht : (s.gen g).target with
    | none =>
      rw [hnone (htarget.trans ht)]
      refine ⟨⟨_, _, _, State.gen_setGen_self _ _ _, by simp⟩, fun x hx => ?_, fun _ _ => rfl, fun _ => rfl, rfl⟩
      exact look_upd_ne _ _ (Ne.symm hx)
    | some o =>
      cases ho : (s.out o).owner with
      | none =>
        rw [hfree o (htarget.trans ht) ho]
        refine ⟨⟨_, _, _, State.gen_setGen_self _ _ _, by simp⟩, fun x hx => ?_, fun p hp => ?_, fun hp => ?_, rfl⟩
        · exact look_upd_ne _ _ (Ne.symm hx)
        · exact look_upd_ne _ _ (fun hop => hp (ht.trans (congrArg some hop)))
        · rw [State.gen_setGen_self] at hp
          exact absurd rfl hp
      | some x =>
        rw [htaken o x (htarget.trans ht) ho]
        refine ⟨⟨_, _, _, State.gen_setGen_self _ _ _, by simp⟩, fun x hx => ?_, fun _ _ => rfl, fun _ => rfl, ?_⟩
        · exact look_upd_ne _ _ (Ne.symm hx)
        · exact look_upd_ne _ _ (by decide)
  · rw [startRun_of_delay hd]
    refine ⟨⟨_, _, _, State.gen_setGen_self _ _ _, by simp⟩, fun x hx => ?_, fun _ _ => rfl, fun _ => rfl, rfl⟩
    exact look_upd_ne _ _ (Ne.symm hx)

theorem startRun_phase (s : State) (g : Fin 8) : ((s.startRun g).gen g).phase ≠ .idle := by
  obtain ⟨p, tm, sh, h, hp⟩ := (startRun_started s g).gen
  rw [h]
  exact hp

theorem startRun_pending (s : State) (g : Fin 8) :
    ((s.startRun g).gen g).pendingTrigger = false ∧ ((s.startRun g).gen g).pendingProfile = none ∧
      ((s.startRun g).gen g).policy = (s.gen g).policy := by
  obtain ⟨p, tm, sh, h, _⟩ := (startRun_started s g).gen
  rw [h]
  exact ⟨rfl, applied_pendingProfile _ _, applied_policy _ _⟩

end

/-! ## The end of a pulse (R8, R78, R83, R91, R98) -/

/-- The station once the claim of generator `g` is released. -/
def State.freed (s : State) (g : Fin 8) : State := { s with outs := s.freedOuts g }

/-- The station once the run of generator `g` is complete (R78). -/
def State.completed (s : State) (g : Fin 8) : State :=
  (((s.freed g).setGen g (s.gen g).ended).presentEdge (.generator g) .rise).idleReport g

/-- The gap of a generator, to the end `t`. -/
def Generator.gapping (e : Generator) (t : Timer) (rem : Remaining) : Generator :=
  { e with phase := .gap, shadowed := false, remaining := rem, timer := t }

theorem startGap_freed (s : State) (g : Fin 8) (rem : Remaining) :
    ((s.freed g).startGap g rem).presentBusy g =
      ((s.freed g).setGen g ((s.gen g).gapping
        (some (s.time + (s.gen g).active.gap.toNat * (s.gen g).active.unit.us)) rem)).presentLevel (.generator g) true := by
  refine presentBusy_of_busy ?_
  unfold State.startGap
  dsimp only
  rw [State.gen_setGen_self]
  simp

theorem pulseEnds_unending {s : State} {g : Fin 8} (h : (s.gen g).remaining = .unending) :
    s.pulseEnds g = ((s.freed g).setGen g ((s.gen g).gapping
      (some (s.time + (s.gen g).active.gap.toNat * (s.gen g).active.unit.us)) .unending)).presentLevel (.generator g) true := by
  unfold State.pulseEnds
  rw [h, dropClaim_eq]
  exact startGap_freed s g .unending

theorem pulseEnds_more {s : State} {g : Fin 8} {n : Byte} (h : (s.gen g).remaining = .pulses n) (hn : 1 < n.toNat) :
    s.pulseEnds g = ((s.freed g).setGen g ((s.gen g).gapping
      (some (s.time + (s.gen g).active.gap.toNat * (s.gen g).active.unit.us)) (.pulses (n - 1)))).presentLevel
        (.generator g) true := by
  unfold State.pulseEnds
  rw [h, dropClaim_eq]
  dsimp only
  rw [if_pos hn]
  exact startGap_freed s g (.pulses (n - 1))

theorem presentEdge_gens (s : State) (o : Origin) (d : Direction) : (s.presentEdge o d).gens = s.gens := by
  obtain ⟨_, _, _, _, h⟩ := presentEdge_side s o d
  rw [h]

theorem presentEdge_outs (s : State) (o : Origin) (d : Direction) : (s.presentEdge o d).outs = s.outs := by
  obtain ⟨_, _, _, _, h⟩ := presentEdge_side s o d
  rw [h]

theorem idleReport_gens_outs (s : State) (g : Fin 8) : (s.idleReport g).gens = s.gens ∧ (s.idleReport g).outs = s.outs :=
  ⟨rfl, rfl⟩

theorem completed_gen (s : State) (g : Fin 8) : (s.completed g).gens = upd s.gens g (s.gen g).ended := by
  unfold State.completed
  rw [(idleReport_gens_outs _ g).1, presentEdge_gens]
  rfl

theorem completed_outs (s : State) (g : Fin 8) : (s.completed g).outs = s.freedOuts g := by
  unfold State.completed
  rw [(idleReport_gens_outs _ g).2, presentEdge_outs]
  rfl

theorem completed_gen_self (s : State) (g : Fin 8) : (s.completed g).gen g = (s.gen g).ended := by
  rw [State.gen, completed_gen, look_upd_self]

theorem pulseEnds_last {s : State} {g : Fin 8} (h : (s.gen g).remaining = .pulses 1) :
    s.pulseEnds g = (if (s.gen g).pendingTrigger then (s.completed g).startRun g else s.completed g).presentBusy g := by
  unfold State.pulseEnds
  rw [h, dropClaim_eq]
  dsimp only
  rw [if_neg (by decide)]
  rfl

theorem settle_gens_outs (s : State) : s.settle.gens = s.gens ∧ s.settle.outs = s.outs := by
  obtain ⟨_, _, _, _, _, _, _, _, h⟩ := settle_side s
  rw [h]
  exact ⟨rfl, rfl⟩

theorem pulseEnds_complete {s : State} {g : Fin 8} (h : (s.gen g).remaining = .pulses 1) :
    ((s.gen g).pendingTrigger = false → s.pulseEnds g = (s.completed g).presentLevel (.generator g) false) ∧
    ((s.gen g).pendingTrigger = true → s.pulseEnds g = ((s.completed g).startRun g).presentLevel (.generator g) true) := by
  rw [pulseEnds_last h]
  refine ⟨fun hp => ?_, fun hp => ?_⟩
  · rw [if_neg (by simp [hp])]
    exact presentBusy_of_idle (by rw [completed_gen_self]; rfl)
  · rw [if_pos hp]
    exact presentBusy_of_busy (startRun_phase _ _)

/-- The generators and lines after the end of a pulse. -/
structure Ended (s : State) (g : Fin 8) (t : State) : Prop where
  others : ∀ x, x ≠ g → t.gen x = s.gen x
  lines : ∀ o, (s.gen g).target ≠ some o → t.out o = s.out o
  claim : (t.gen g).phase ≠ .pulse → t.outs = s.freedOuts g

theorem Ended.of_freed {s t : State} {g : Fin 8} {e : Generator} (hg : t.gens = upd s.gens g e) (ho : t.outs = s.freedOuts g) :
    Ended s g t :=
  ⟨fun x hx => by rw [State.gen, hg, look_upd_ne _ _ (Ne.symm hx)]; rfl,
    fun o h => by rw [State.out, ho, freedOuts_other s h], fun _ => ho⟩

theorem Ended.level {s t : State} {g : Fin 8} (h : Ended s g t) (b : Bool) :
    Ended s g (t.presentLevel (.generator g) b) :=
  ⟨fun x hx => by rw [presentLevel_gen, h.others x hx], fun o ho => by rw [presentLevel_out, h.lines o ho], fun hp => by
    rw [presentLevel_gen] at hp
    obtain ⟨⟨_, _, _, heq⟩, _⟩ := presentLevel_levelSide t (.generator g) b
    rw [heq]
    exact h.claim hp⟩

theorem completed_ended (s : State) (g : Fin 8) : Ended s g (s.completed g) :=
  .of_freed (completed_gen s g) (completed_outs s g)

theorem rerun_ended (s : State) (g : Fin 8) : Ended s g ((s.completed g).startRun g) := by
  have hrun := startRun_started (s.completed g) g
  have hdone := completed_ended s g
  have htarget : ((s.completed g).gen g).target = (s.gen g).target := by rw [completed_gen_self]; rfl
  exact ⟨fun x hx => (hrun.others x hx).trans (hdone.others x hx),
    fun o ho => (hrun.lines o (by rw [htarget]; exact ho)).trans (hdone.lines o ho),
    fun hp => (hrun.claim hp).trans (completed_outs s g)⟩

theorem remaining_cases (r : Remaining) : r = .unending ∨ (∃ n : Byte, r = .pulses n ∧ 1 < n.toNat) ∨
    ∃ n : Byte, r = .pulses n ∧ ¬1 < n.toNat := by
  cases r with
  | unending => exact .inl rfl
  | pulses n =>
    by_cases hn : 1 < n.toNat
    · exact .inr (.inl ⟨n, rfl, hn⟩)
    · exact .inr (.inr ⟨n, rfl, hn⟩)

theorem pulseEnds_ended (s : State) (g : Fin 8) : Ended s g (s.pulseEnds g) := by
  have hgap : ∀ e : Generator, Ended s g ((s.freed g).setGen g e) := fun e => .of_freed rfl rfl
  rcases remaining_cases (s.gen g).remaining with h | ⟨n, h, hn⟩ | ⟨n, h, hn⟩
  · rw [pulseEnds_unending h]
    exact (hgap _).level true
  · rw [pulseEnds_more h hn]
    exact (hgap _).level true
  · have hlast : s.pulseEnds g =
        (if (s.gen g).pendingTrigger then (s.completed g).startRun g else s.completed g).presentBusy g := by
      unfold State.pulseEnds
      rw [h, dropClaim_eq]
      dsimp only
      rw [if_neg hn]
      rfl
    rw [hlast]
    refine Ended.level ?_ _
    split
    · exact rerun_ended s g
    · exact completed_ended s g

theorem Ended.settled {s t : State} {g : Fin 8} (h : Ended s g t) : Ended s g t.settle := by
  obtain ⟨hg, ho⟩ := settle_gens_outs t
  exact ⟨fun x hx => by rw [State.gen, hg]; exact h.others x hx, fun o hp => by rw [State.out, ho]; exact h.lines o hp,
    fun hp => by rw [State.gen, hg] at hp; rw [ho]; exact h.claim hp⟩

theorem settle_gen (s : State) (g : Fin 8) : s.settle.gen g = s.gen g := by
  rw [State.gen, (settle_gens_outs s).1]
  rfl

/-- Settles O20, by the remaining pulses and the held trigger. -/
theorem pulseExpiryEndsThePulse : Obligations.PulseExpiryEndsThePulse := by
  intro s g d hphase htimer
  have hexec : exec (.pulseExpiry g) s = .next ((s.setTime (max s.time d)).pulseEnds g).settle := by
    have h : exec (.pulseExpiry g) s = .next ((s.reach (s.gen g).timer).pulseEnds g).settle := if_pos hphase
    rw [h, reach_eq htimer]
  have hgen : (s.setTime (max s.time d)).gen g = s.gen g := rfl
  have hunend : (s.gen g).remaining = .unending → _ := fun h => pulseEnds_unending (s := s.setTime (max s.time d)) (hgen ▸ h)
  have hmore : ∀ n : Byte, (s.gen g).remaining = .pulses n → 1 < n.toNat → _ :=
    fun n h hn => pulseEnds_more (s := s.setTime (max s.time d)) (hgen ▸ h) hn
  have hrun : (s.gen g).remaining = .pulses 1 → _ := fun h => pulseEnds_complete (s := s.setTime (max s.time d)) (hgen ▸ h)
  refine ⟨fun h => ?_, fun n h hn => ?_, fun h hp => ?_, fun h hp => ?_, _, hexec, ?_⟩
  · rw [hexec, hunend h]
    rfl
  · rw [hexec, hmore n h hn]
    rfl
  · rw [hexec, (hrun h).1 hp]
    rfl
  · rw [hexec, (hrun h).2 hp]
    rfl
  · obtain ⟨hothers, hlines, hclaim⟩ := (pulseEnds_ended (s.setTime (max s.time d)) g).settled
    have hkept : ∀ t : State, GenSide (s.setTime (max s.time d)) t → t.settle.time = max s.time d ∧
        t.settle.counters = s.counters ∧ t.settle.groups = s.groups ∧ t.settle.roster = s.roster ∧
        t.settle.subs = s.subs ∧ t.settle.profiles = s.profiles := by
      rintro t ⟨_, _, _, _, _, _, _, rfl⟩
      obtain ⟨_, _, _, _, _, _, _, _, h⟩ := settle_side _
      rw [h]
      exact ⟨rfl, rfl, rfl, rfl, rfl, rfl⟩
    obtain ⟨htime, hcounters, hgroups, hroster, hsubs, hprofiles⟩ := hkept _ (pulseEnds_side (s.setTime (max s.time d)) g)
    refine ⟨htime, hlines, fun o ho hp => ?_, hothers, hcounters, hgroups, hroster, hsubs, hprofiles,
      fun rem hrem hcase => ?_, fun h hp => ?_, fun h hp => ?_⟩
    · rw [State.out, hclaim hp]
      exact freedOuts_owner (s.setTime (max s.time d)) ho
    · rw [settle_gen]
      rcases hcase with rfl | ⟨n, rfl, hn⟩
      · rw [hunend hrem, presentLevel_gen, State.gen_setGen_self]
        rfl
      · rw [hmore n hrem hn, presentLevel_gen, State.gen_setGen_self]
        rfl
    · rw [settle_gen, (hrun h).1 hp, presentLevel_gen, completed_gen_self]
      rfl
    · rw [settle_gen, (hrun h).2 hp, presentLevel_gen]
      obtain ⟨hpend, hprof, _⟩ := startRun_pending ((s.setTime (max s.time d)).completed g) g
      exact ⟨startRun_phase _ _, hpend, hprof⟩

end Sys2Proof.Machine
end

section
/-! PROOF. FIRE with a count, by the retrigger policy (R75, R81–R84, R91). -/

namespace Sys2Proof.Machine

/-! ## Tallies counted more than once (R175) -/

theorem countTimes_gens (s : State) (t : TallyName) (n : Nat) : (s.countTimes t n).gens = s.gens := by
  induction n generalizing s with
  | zero => rfl
  | succ n ih => exact ih (s.count t)

theorem countTimes_gen (s : State) (t : TallyName) (n : Nat) (g : Fin 8) : (s.countTimes t n).gen g = s.gen g := by
  rw [State.gen, countTimes_gens]
  rfl

theorem countTimes_tally_congr {s u : State} {t : TallyName} (h : s.tally t = u.tally t) (n : Nat) :
    (s.countTimes t n).tally t = (u.countTimes t n).tally t := by
  induction n generalizing s u with
  | zero => exact h
  | succ n ih =>
    refine ih (s := s.count t) (u := u.count t) ?_
    rw [tally_count_self, tally_count_self, h]

/-! ## One trigger, and triggers in succession (R81–R84) -/

section
variable {s : State} {g : Fin 8}

theorem trigger_of_idle (h : (s.gen g).phase = .idle) : s.trigger g = s.startRun g := if_pos h

theorem trigger_of_ignore (h : (s.gen g).phase ≠ .idle) (hp : (s.gen g).policy = .ignore) :
    s.trigger g = s.count .missedTriggers := by
  refine (if_neg h).trans ?_
  rw [hp]

theorem trigger_of_restart (h : (s.gen g).phase ≠ .idle) (hp : (s.gen g).policy = .restart) :
    s.trigger g = (s.endRun g).startRun g := by
  refine (if_neg h).trans ?_
  rw [hp]

/-- The generator `g` holds a trigger (R83). -/
def State.holding (s : State) (g : Fin 8) : State := s.setGen g { s.gen g with pendingTrigger := true }

theorem trigger_of_stack (h : (s.gen g).phase ≠ .idle) (hp : (s.gen g).policy = .stack) :
    s.trigger g = if (s.gen g).pendingTrigger then s.count .missedTriggers else s.holding g := by
  refine (if_neg h).trans ?_
  simp only [hp]
  unfold State.holding
  simp only [hp]

theorem trigger_phase (s : State) (g : Fin 8) : ((s.trigger g).gen g).phase ≠ .idle := by
  by_cases h : (s.gen g).phase = .idle
  · rw [trigger_of_idle h]
    exact startRun_phase s g
  · cases hp : (s.gen g).policy with
    | ignore => rw [trigger_of_ignore h hp]; exact h
    | restart => rw [trigger_of_restart h hp]; exact startRun_phase _ g
    | stack =>
      rw [trigger_of_stack h hp]
      split
      · exact h
      · rw [State.holding, State.gen_setGen_self]
        exact h

theorem triggers_phase (s : State) (g : Fin 8) {n : Nat} (hn : 1 ≤ n) : ((s.triggers g n).gen g).phase ≠ .idle := by
  induction n generalizing s with
  | zero => omega
  | succ n ih =>
    rw [State.triggers]
    cases n with
    | zero => exact trigger_phase s g
    | succ n => exact ih _ (by omega)

/-- Triggers that a running generator misses. -/
theorem triggers_missed (h : (s.gen g).phase ≠ .idle)
    (hp : (s.gen g).policy = .ignore ∨ (s.gen g).policy = .stack ∧ (s.gen g).pendingTrigger = true) (n : Nat) :
    s.triggers g n = s.countTimes .missedTriggers n := by
  induction n generalizing s with
  | zero => rfl
  | succ n ih =>
    have hone : s.trigger g = s.count .missedTriggers := by
      rcases hp with hp | ⟨hp, hheld⟩
      · exact trigger_of_ignore h hp
      · rw [trigger_of_stack h hp, if_pos hheld]
    rw [State.triggers, hone]
    exact ih (s := s.count .missedTriggers) h hp

/-- A running generator under STACK holds the first trigger and misses the others. -/
theorem triggers_held (h : (s.gen g).phase ≠ .idle) (hp : (s.gen g).policy = .stack)
    (hf : (s.gen g).pendingTrigger = false) (n : Nat) :
    s.triggers g (n + 1) = (s.holding g).countTimes .missedTriggers n := by
  have hgen : (s.holding g).gen g = { s.gen g with pendingTrigger := true } := State.gen_setGen_self _ _ _
  rw [State.triggers, trigger_of_stack h hp, if_neg (by simp [hf])]
  exact triggers_missed (by rw [hgen]; exact h) (.inr ⟨by rw [hgen]; exact hp, by rw [hgen]⟩) n

theorem triggers_of_idle (h : (s.gen g).phase = .idle) (n : Nat) :
    s.triggers g (n + 1) = (s.startRun g).triggers g n := by
  rw [State.triggers, trigger_of_idle h]

/-! ## FIRE (R64, R84, R91) -/

theorem fire_of_count (hp : (s.gen g).policy ≠ .restart) {n : Nat} (hn : 1 ≤ n) :
    s.fire g n = (s.triggers g n).presentLevel (.generator g) true := by
  unfold State.fire
  rw [if_neg hp]
  exact presentBusy_of_busy (triggers_phase s g hn)

theorem fire_of_restart (hp : (s.gen g).policy = .restart) {n : Nat} (hn : 1 ≤ n) :
    s.fire g n = (s.trigger g).presentLevel (.generator g) true := by
  unfold State.fire
  rw [if_pos hp, Nat.min_eq_right hn]
  exact presentBusy_of_busy (trigger_phase s g)

/-- What the triggers of a FIRE come to. -/
def State.fired (s : State) (g : Fin 8) (n : Nat) : State :=
  if (s.gen g).policy = .restart then s.trigger g else s.triggers g n

theorem fire_eq (s : State) (g : Fin 8) {n : Nat} (hn : 1 ≤ n) :
    s.fire g n = (s.fired g n).presentLevel (.generator g) true := by
  unfold State.fired
  split
  · next h => exact fire_of_restart h hn
  · next h => exact fire_of_count h hn

theorem fired_phase (s : State) (g : Fin 8) {n : Nat} (hn : 1 ≤ n) : ((s.fired g n).gen g).phase ≠ .idle := by
  unfold State.fired
  split
  · exact trigger_phase s g
  · exact triggers_phase s g hn

theorem fired_of_restart (hp : (s.gen g).policy = .restart) (n : Nat) :
    s.fired g n = if (s.gen g).phase = .idle then s.startRun g else (s.endRun g).startRun g := by
  refine (if_pos hp).trans ?_
  split
  · next h => exact trigger_of_idle h
  · next h => exact trigger_of_restart h hp

theorem fired_of_ignore (hp : (s.gen g).policy = .ignore) {n : Nat} (hn : 1 ≤ n) :
    s.fired g n =
      if (s.gen g).phase = .idle then (s.startRun g).countTimes .missedTriggers (n - 1)
      else s.countTimes .missedTriggers n := by
  refine (if_neg (by simp [hp])).trans ?_
  split
  · next h =>
    obtain ⟨m, rfl⟩ : ∃ m, n = m + 1 := ⟨n - 1, by omega⟩
    rw [triggers_of_idle h]
    exact triggers_missed (startRun_phase s g) (.inl ((startRun_pending s g).2.2.trans hp)) m
  · next h => exact triggers_missed h (.inl hp) n

theorem fired_of_stack_idle (hp : (s.gen g).policy = .stack) (h : (s.gen g).phase = .idle) :
    s.fired g 1 = s.startRun g ∧ ∀ n, 2 ≤ n →
      s.fired g n = ((s.startRun g).holding g).countTimes .missedTriggers (n - 2) := by
  have hnot : (s.gen g).policy ≠ .restart := by simp [hp]
  obtain ⟨hfree, _, hpol⟩ := startRun_pending s g
  refine ⟨(if_neg hnot).trans (triggers_of_idle h 0), fun n hn => (if_neg hnot).trans ?_⟩
  obtain ⟨m, rfl⟩ : ∃ m, n = m + 1 + 1 := ⟨n - 2, by omega⟩
  rw [triggers_of_idle h, triggers_held (startRun_phase s g) (hpol.trans hp) hfree]
  rfl

theorem fired_of_stack_running (hp : (s.gen g).policy = .stack) (h : (s.gen g).phase ≠ .idle) {n : Nat} (hn : 1 ≤ n) :
    ((s.gen g).pendingTrigger = false → s.fired g n = (s.holding g).countTimes .missedTriggers (n - 1)) ∧
    ((s.gen g).pendingTrigger = true → s.fired g n = s.countTimes .missedTriggers n) := by
  have hnot : (s.gen g).policy ≠ .restart := by simp [hp]
  refine ⟨fun hf => (if_neg hnot).trans ?_, fun hf => (if_neg hnot).trans (triggers_missed h (.inr ⟨hp, hf⟩) n)⟩
  obtain ⟨m, rfl⟩ : ∃ m, n = m + 1 := ⟨n - 1, by omega⟩
  exact triggers_held h hp hf m

theorem holding_gen (s : State) (g : Fin 8) : (s.holding g).gen g = { s.gen g with pendingTrigger := true } :=
  State.gen_setGen_self _ _ _

theorem startRun_missed (s : State) (g : Fin 8) : (s.startRun g).tally .missedTriggers = s.tally .missedTriggers :=
  (startRun_started s g).missed

theorem endRun_tally (s : State) (g : Fin 8) (t : TallyName) : (s.endRun g).tally t = s.tally t := by
  rw [endRun_eq]
  rfl

end

/-- The profile of a run is copied as the statement says it. -/
def Generator.copied (e : Generator) (profiles : Vector Profile 16) : Generator :=
  match e.pendingProfile with
  | some p => { e with active := look profiles p, activeNumber := p, pendingProfile := none }
  | none => e

theorem applied_eq_copied (e : Generator) (v : Vector Profile 16) : e.applied v = e.copied v := by
  unfold Generator.applied Generator.copied
  cases e.pendingProfile <;> rfl

theorem running_eq_copied (e : Generator) (v : Vector Profile 16) : e.running v =
    { e.copied v with remaining := (e.copied v).active.pulses, pendingTrigger := false, shadowed := false } := by
  unfold Generator.running
  rw [applied_eq_copied]

/-- Settles O21: what the triggers come to, by phase and policy. -/
theorem fireOfCountNFollowsThePolicy : Obligations.FireOfCountNFollowsThePolicy := by
  refine ⟨fun s g n hn => ?_, fun s g n hn => ?_, fun s g => ?_⟩
  · have hgen : (s.fire g n).gen g = (s.fired g n).gen g := by rw [fire_eq s g hn, presentLevel_gen]
    have htally : (s.fire g n).tally .missedTriggers = (s.fired g n).tally .missedTriggers := by
      rw [fire_eq s g hn, State.tally, presentLevel_tallies]
      rfl
    dsimp only
    rw [hgen, htally]
    refine ⟨fired_phase s g hn, fun hp => ?_, fun hp => ?_, fun hp => ?_⟩
    · rw [fired_of_ignore hp hn]
      refine ⟨fun h => ?_, fun h => ?_⟩
      · rw [if_pos h]
        exact countTimes_tally_congr (startRun_missed s g) _
      · rw [if_neg h]
        exact ⟨rfl, countTimes_gen _ _ _ _⟩
    · rw [fired_of_restart hp]
      split
      · obtain ⟨hpend, hprof, _⟩ := startRun_pending s g
        exact ⟨startRun_missed s g, hpend, hprof⟩
      · obtain ⟨hpend, hprof, _⟩ := startRun_pending (s.endRun g) g
        exact ⟨(startRun_missed _ g).trans (endRun_tally s g _), hpend, hprof⟩
    · refine ⟨fun h => ?_, fun h hf => ?_, fun h hf => ?_⟩
      · obtain ⟨hone, htwo⟩ := fired_of_stack_idle hp h
        by_cases hn2 : 2 ≤ n
        · rw [htwo n hn2, countTimes_gen, holding_gen]
          exact ⟨countTimes_tally_congr (s := (s.startRun g).holding g) (startRun_missed s g) _, (decide_eq_true hn2).symm⟩
        · obtain rfl : n = 1 := by omega
          rw [hone]
          exact ⟨startRun_missed s g, (startRun_pending s g).1⟩
      · rw [(fired_of_stack_running hp h hn).1 hf, countTimes_gen, holding_gen]
        exact ⟨countTimes_tally_congr (s := s.holding g) (u := s) rfl _, rfl⟩
      · rw [(fired_of_stack_running hp h hn).2 hf, countTimes_gen]
        exact ⟨rfl, rfl⟩
  · dsimp only
    rw [fire_eq s g hn]
    refine ⟨fun h => ⟨fun hp => ?_, fun hp => ?_, fun hp h1 => ?_, fun hp h2 => ?_⟩,
      fun h => ⟨fun hp => ?_, fun hp => ?_, fun hp hf => ?_, fun hp hf => ?_⟩⟩
    · rw [fired_of_ignore hp hn, if_pos h]
    · rw [fired_of_restart hp, if_pos h]
    · rw [h1, (fired_of_stack_idle hp h).1]
    · rw [(fired_of_stack_idle hp h).2 n h2]
      rfl
    · rw [fired_of_ignore hp hn, if_neg h]
    · rw [fired_of_restart hp, if_neg h, endRun_eq]
      rfl
    · rw [(fired_of_stack_running hp h hn).1 hf]
      rfl
    · rw [(fired_of_stack_running hp h hn).2 hf]
  · have hcopied := applied_eq_copied (s.gen g) s.profiles
    have htarget : ((s.gen g).running s.profiles).target = (s.gen g).target := applied_target _ _
    refine ⟨fun h => ?_, fun hd => ?_, fun hd ht => ?_, fun o hd ht ho => ?_, fun o x hd ht ho => ?_⟩
    · rw [fire_eq s g (le_refl 1)]
      by_cases hp : (s.gen g).policy = .restart
      · rw [fired_of_restart hp, if_pos h]
      · rw [State.fired, if_neg hp, triggers_of_idle h]
        rfl
    · have hd' : ((s.gen g).applied s.profiles).active.delay ≠ 0 := by rw [hcopied]; exact hd
      rw [startRun_of_delay hd', running_eq_copied, hcopied]
      rfl
    all_goals
      have hd' : ((s.gen g).applied s.profiles).active.delay = 0 := by rw [hcopied]; exact hd
      obtain ⟨hnone, hfree, htaken⟩ := startRun_cases hd'
    · rw [hnone (htarget.trans ht), running_eq_copied]
      rfl
    · rw [hfree o (htarget.trans ht) ho, running_eq_copied]
      rfl
    · rw [htaken o x (htarget.trans ht) ho, running_eq_copied]
      rfl

end Sys2Proof.Machine
end

section
/-! PROOF. An edge presented to the source table (R5, R7–R9, R12, R15). -/

namespace Sys2Proof.Machine

/-! ## Edges lost (R12, R15, R19) -/

theorem countTimes_add (s : State) (t : TallyName) (m n : Nat) :
    s.countTimes t (m + n) = (s.countTimes t m).countTimes t n := by
  induction m generalizing s with
  | zero => rw [Nat.zero_add]; rfl
  | succ m ih => rw [Nat.succ_add]; exact ih (s.count t)

theorem countTimes_tallies_congr {s u : State} (h : s.tallies = u.tallies) (t : TallyName) (n : Nat) :
    (s.countTimes t n).tallies = (u.countTimes t n).tallies := by
  induction n generalizing s u with
  | zero => exact h
  | succ n ih =>
    refine ih (s := s.count t) (u := u.count t) ?_
    simp only [State.count, State.setTally, State.tally, h]

/-- From `s` to `t` `n` edges were lost, and of the tallies and the fault set nothing else changed. -/
structure Loses (s : State) (n : Nat) (t : State) : Prop where
  tallies : t.tallies = (s.countTimes .lostEdges n).tallies
  faults : t.faults = if n = 0 then s.faults else { s.faults with lostEdges := true }

theorem Loses.none {s t : State} (ht : t.tallies = s.tallies) (hf : t.faults = s.faults) : Loses s 0 t := ⟨ht, hf⟩

theorem Loses.trans {s t u : State} {m n : Nat} (h : Loses s m t) (k : Loses t n u) : Loses s (m + n) u := by
  refine ⟨?_, ?_⟩
  · rw [k.tallies, countTimes_add]
    exact countTimes_tallies_congr h.tallies _ _
  · rw [k.faults, h.faults]
    by_cases hn : n = 0
    · simp [hn]
    · by_cases hm : m = 0 <;> simp [hn, hm]

/-! ## Operations at one entry -/

/-- The entry `i` stays. -/
abbrev KeepsSource (i : Fin 16) (s t : State) : Prop := t.source i = s.source i

theorem KeepsSource.refl (i : Fin 16) (s : State) : KeepsSource i s s := rfl

theorem KeepsSource.trans {i : Fin 16} {s t u : State} (h : KeepsSource i s t) (k : KeepsSource i t u) : KeepsSource i s u :=
  Eq.trans k h

theorem takeEdge_source (s : State) (i : Fin 16) (d : Direction) :
    (s.takeEdge i d).sources = upd s.sources i ((s.source i).countEdge d).1 := by
  unfold State.takeEdge
  dsimp only
  split <;> rfl

theorem takeEdge_loses (s : State) (i : Fin 16) (d : Direction) :
    Loses s (if ((s.source i).countEdge d).2 then 1 else 0) (s.takeEdge i d) := by
  unfold State.takeEdge
  dsimp only
  split
  · exact ⟨rfl, rfl⟩
  · exact .none rfl rfl

theorem countEdge_lastDir (e : SourceEntry) (d : Direction) : (e.countEdge d).1.lastDir = d := by
  unfold SourceEntry.countEdge
  split <;> rfl

/-- Whether an entry counts an edge of an origin. -/
def SourceEntry.takes (e : SourceEntry) (o : Origin) (d : Direction) : Bool := e.origin = o && e.mode.counts o d

/-- An edge at one entry. -/
def State.edgeAt (s : State) (o : Origin) (d : Direction) (i : Fin 16) : State :=
  if (s.source i).takes o d then s.takeEdge i d else s

theorem presentEdge_eq (s : State) (o : Origin) (d : Direction) :
    s.presentEdge o d = forEach (fun i t => t.edgeAt o d i) s := rfl

theorem edgeAt_other (s : State) (o : Origin) (d : Direction) {i j : Fin 16} (h : i ≠ j) :
    KeepsSource j s (s.edgeAt o d i) := by
  unfold State.edgeAt
  split
  · rw [KeepsSource, State.source, takeEdge_source, look_upd_ne _ _ h]
    rfl
  · rfl

theorem edgeAt_self (s : State) (o : Origin) (d : Direction) (i : Fin 16) :
    (s.edgeAt o d i).source i = if (s.source i).takes o d then ((s.source i).countEdge d).1 else s.source i := by
  unfold State.edgeAt
  split
  · rw [State.source, takeEdge_source, look_upd_self]
  · rfl

/-- Whether an edge is lost at an entry. -/
def SourceEntry.losesEdge (e : SourceEntry) (o : Origin) (d : Direction) : Bool := e.takes o d && (e.countEdge d).2

theorem edgeAt_loses (s : State) (o : Origin) (d : Direction) (i : Fin 16) :
    Loses s (if (s.source i).losesEdge o d then 1 else 0) (s.edgeAt o d i) := by
  rw [State.edgeAt, SourceEntry.losesEdge]
  cases h : (s.source i).takes o d with
  | true =>
    rw [Bool.true_and, if_pos rfl]
    exact takeEdge_loses s i d
  | false =>
    rw [Bool.false_and]
    exact .none rfl rfl

/-! ## The edge at the whole table -/

/-- An edge finds each entry as it was. -/
theorem presentEdge_source (s : State) (o : Origin) (d : Direction) (i : Fin 16) :
    (s.presentEdge o d).source i = if (s.source i).takes o d then ((s.source i).countEdge d).1 else s.source i := by
  obtain ⟨before, after, hb, ha, heq⟩ := forEach_split (fun i t => State.edgeAt t o d i) i
  have hbefore : KeepsSource i s (before.foldl (fun t x => t.edgeAt o d x) s) :=
    foldl_rel_of_mem (KeepsSource.refl i) KeepsSource.trans _ before (fun x hx t => edgeAt_other t o d (hb x hx)) s
  have hafter := foldl_rel_of_mem (KeepsSource.refl i) KeepsSource.trans (fun t x => State.edgeAt t o d x) after
    (fun x hx t => edgeAt_other t o d (ha x hx)) ((before.foldl (fun t x => t.edgeAt o d x) s).edgeAt o d i)
  rw [presentEdge_eq, heq, hafter, edgeAt_self, hbefore]

/-- The edges lost are those of the entries that find them full. -/
theorem presentEdge_loses (s : State) (o : Origin) (d : Direction) :
    Loses s ((indices 16).countP (fun i => (s.source i).losesEdge o d)) (s.presentEdge o d) := by
  have hfold : ∀ (l : List (Fin 16)) (t : State), l.Nodup →
      Loses t (l.countP (fun i => (t.source i).losesEdge o d)) (l.foldl (fun u i => u.edgeAt o d i) t) := by
    intro l
    induction l with
    | nil => exact fun t _ => .none rfl rfl
    | cons i l ih =>
      intro t hn
      obtain ⟨hi, hl⟩ := List.nodup_cons.1 hn
      have hrest : l.countP (fun j => ((t.edgeAt o d i).source j).losesEdge o d) =
          l.countP (fun j => (t.source j).losesEdge o d) := by
        refine List.countP_congr fun j hj => ?_
        rw [edgeAt_other t o d (fun hij : i = j => hi (hij ▸ hj))]
      have h := (edgeAt_loses t o d i).trans (ih (t.edgeAt o d i) hl)
      rw [hrest] at h
      rw [List.countP_cons, Nat.add_comm]
      exact h
  exact hfold _ s (List.nodup_finRange 16)

theorem presentEdge_side' (s : State) (o : Origin) (d : Direction) : (s.presentEdge o d) =
    { s with sources := (s.presentEdge o d).sources, tallies := (s.presentEdge o d).tallies
             faults := (s.presentEdge o d).faults } := by
  have htx : (s.presentEdge o d).tx = s.tx := by
    refine forEach_rel (R := fun s t : State => t.tx = s.tx) (fun _ => rfl) (fun h k => k.trans h) _ (fun i t => ?_) s
    split
    · unfold State.takeEdge
      dsimp only
      split <;> rfl
    · rfl
  obtain ⟨_, _, _, _, h⟩ := presentEdge_side s o d
  rw [h] at htx ⊢
  simpa using htx

/-- Settles O10, by the loss at one entry, added up over the table. -/
theorem inputEdgesAreCountedByMode : Obligations.InputEdgesAreCountedByMode := by
  refine ⟨fun n => ⟨rfl, rfl, rfl, rfl, fun d => by cases d <;> rfl, fun d => rfl, fun d => rfl⟩, fun o d ho => ?_,
    fun s c q => ⟨rfl, terminalEvents_succ s c q⟩, fun s o d => ?_⟩
  · rcases ho with ⟨g, rfl⟩ | ⟨c, rfl⟩ <;> exact ⟨rfl, rfl, rfl, rfl, rfl⟩
  · obtain ⟨htallies, hfaults⟩ := presentEdge_loses s o d
    have hlost : (fun i => (s.source i).losesEdge o d) =
        fun i => (decide ((s.source i).origin = o) && (s.source i).mode.counts o d && ((s.source i).countEdge d).2) := rfl
    rw [hlost] at htallies hfaults
    refine ⟨fun i hi => ⟨fun hc => ?_, fun hc => ?_⟩, fun i hi => ?_, ?_⟩
    · have hsrc := presentEdge_source s o d i
      rw [if_pos (by simp [SourceEntry.takes, hi, hc])] at hsrc
      exact ⟨hsrc, by rw [hsrc, countEdge_lastDir]⟩
    · rw [presentEdge_source, if_neg (by simp [SourceEntry.takes, hc])]
    · rw [presentEdge_source, if_neg (by simp [SourceEntry.takes, hi])]
    · rw [← htallies, ← hfaults]
      exact presentEdge_side' s o d

end Sys2Proof.Machine
end

section
/-! PROOF. A level presented to the source table, and the end of a stability interval (R3, R5, R8–R11). -/

namespace Sys2Proof.Machine

/-! ## What an entry sees of a state -/

/-- What a level makes of the entry `i` depends on these. -/
structure SameAt (i : Fin 16) (s t : State) : Prop where
  source : KeepsSource i s t
  onBus : t.holdOnBus i = s.holdOnBus i
  roster : t.roster = s.roster
  address : t.address = s.address

theorem SameAt.refl (i : Fin 16) (s : State) : SameAt i s s := ⟨rfl, rfl, rfl, rfl⟩

theorem SameAt.trans {i : Fin 16} {s t u : State} (h : SameAt i s t) (k : SameAt i t u) : SameAt i s u :=
  ⟨h.source.trans k.source, k.onBus.trans h.onBus, k.roster.trans h.roster, k.address.trans h.address⟩

theorem SameAt.requiredFor {i : Fin 16} {s t : State} (h : SameAt i s t) (e : SourceEntry) :
    t.requiredFor e = s.requiredFor e := by
  have hroster : t.rosterAt = s.rosterAt := by
    funext a
    rw [State.rosterAt, h.roster]
    rfl
  unfold State.requiredFor
  rw [hroster, h.address]

/-! ## The condition at one entry -/

theorem asserted_iff {m : Mode} {b : Bool} :
    m.asserted b = true ↔ (m = .holdHigh ∧ b = true) ∨ (m = .holdLow ∧ b = false) := by
  cases m <;> simp [Mode.asserted]

/-- An assertion changes one entry of the table and nothing else. -/
theorem conditionAsserts_puts (s : State) (i : Fin 16) : ∃ f : SourceEntry, f.condition = true ∧
    (f.holdState = .orphaned ↔ (s.source i).holdState = .orphaned) ∧ s.conditionAsserts i = s.setSource i f := by
  by_cases hq : (s.source i).holdState = .quiet
  · exact ⟨_, rfl, by simp [hq], conditionAsserts_of_quiet hq⟩
  · by_cases ha : (s.source i).holdState = .announcing
    · exact ⟨_, rfl, by simp [ha], conditionAsserts_of_announcing ha⟩
    · exact ⟨{ s.source i with condition := true }, rfl, .rfl, conditionAsserts_of_ne hq ha⟩

theorem SameAt.conditionAsserts {i : Fin 16} {s t : State} (h : SameAt i s t) :
    (t.conditionAsserts i).source i = (s.conditionAsserts i).source i := by
  have hsrc : t.source i = s.source i := h.source
  by_cases hq : (s.source i).holdState = .quiet
  · rw [conditionAsserts_of_quiet hq, conditionAsserts_of_quiet (by rw [hsrc]; exact hq), h.requiredFor, hsrc,
      State.source_setSource_self, State.source_setSource_self]
  · by_cases ha : (s.source i).holdState = .announcing
    · rw [conditionAsserts_of_announcing ha, conditionAsserts_of_announcing (by rw [hsrc]; exact ha), hsrc,
        State.source_setSource_self, State.source_setSource_self]
    · rw [conditionAsserts_of_ne hq ha, conditionAsserts_of_ne (by rw [hsrc]; exact hq) (by rw [hsrc]; exact ha), hsrc,
        State.source_setSource_self, State.source_setSource_self]

/-- The hold states before the HOLD has been heard, while it is sent, and after. -/
theorem holdState_cases (h : HoldState) : (h = .quiet ∨ h = .ending) ∨ h = .announcing ∨
    (h = .awaiting ∨ h = .orphaned ∨ h = .satisfied) := by
  cases h <;> simp

theorem SameAt.conditionDrops {i : Fin 16} {s t : State} (h : SameAt i s t) :
    (t.conditionDrops i).source i = (s.conditionDrops i).source i := by
  have hsrc : t.source i = s.source i := h.source
  have hbus := h.onBus
  rcases holdState_cases (s.source i).holdState with hs | ha | hh
  · rw [conditionDrops_of_silent hs, conditionDrops_of_silent (by rw [hsrc]; exact hs), hsrc, State.source_setSource_self,
      State.source_setSource_self]
  · have ha' : (t.source i).holdState = .announcing := by rw [hsrc]; exact ha
    cases hb : s.holdOnBus i with
    | true =>
      rw [conditionDrops_of_onBus ha hb, conditionDrops_of_onBus ha' (hbus.trans hb), hsrc, State.source_setSource_self,
        State.source_setSource_self]
    | false =>
      rw [conditionDrops_of_offBus ha hb, conditionDrops_of_offBus ha' (hbus.trans hb), hsrc, State.source_setSource_self,
        State.source_setSource_self]
  · rw [conditionDrops_of_heard hh, conditionDrops_of_heard (by rw [hsrc]; exact hh), hsrc, refreshOrphaned_source,
      refreshOrphaned_source, State.source_setSource_self, State.source_setSource_self]

theorem OrphanShown.conditionAsserts {s : State} (h : OrphanShown s) (i : Fin 16) : OrphanShown (s.conditionAsserts i) := by
  obtain ⟨f, _, hf, heq⟩ := conditionAsserts_puts s i
  rw [heq]
  exact h.put hf

theorem retracted_quiet (e : SourceEntry) : e.retracted.holdState ≠ .orphaned := by
  unfold SourceEntry.retracted
  split
  · simp
  · split <;> simp

theorem OrphanShown.conditionDrops {s : State} (h : OrphanShown s) (i : Fin 16) : OrphanShown (s.conditionDrops i) := by
  rcases holdState_cases (s.source i).holdState with hs | ha | hh
  · rw [conditionDrops_of_silent hs]
    exact h.put .rfl
  · cases hb : s.holdOnBus i with
    | true =>
      rw [conditionDrops_of_onBus ha hb]
      exact h.put .rfl
    | false =>
      rw [conditionDrops_of_offBus ha hb]
      refine OrphanShown.put (s := s.withdrawEntry (.source i)) h (iff_of_false (retracted_quiet _) ?_)
      rw [show ((s.withdrawEntry (.source i)).source i).holdState = .announcing from ha]
      simp
  · rw [conditionDrops_of_heard hh]
    exact refreshOrphaned_shown _

/-! ## The list at a drop (R35, R131) -/

theorem entryOf_withdrawWaiting {p q : Producer} (h : p ≠ q) (l : List TxEntry) :
    entryOf q (withdrawWaiting p l) = entryOf q l := by
  unfold entryOf withdrawWaiting
  rw [List.find?_filter]
  congr 1
  funext e
  by_cases he : e.producer = q
  · simp [he, h.symm]
  · simp [he]

theorem conditionDrops_list (s : State) (i : Fin 16) : (s.conditionDrops i).tx =
    if (s.source i).holdState = .announcing ∧ s.holdOnBus i = false then withdrawWaiting (.source i) s.tx else s.tx := by
  rcases holdState_cases (s.source i).holdState with hs | ha | hh
  · rw [conditionDrops_of_silent hs, if_neg (by rcases hs with h | h <;> simp [h])]
    rfl
  · cases hb : s.holdOnBus i with
    | true => rw [conditionDrops_of_onBus ha hb, if_neg (by simp)]; rfl
    | false => rw [conditionDrops_of_offBus ha hb, if_pos ⟨ha, rfl⟩]; rfl
  · rw [conditionDrops_of_heard hh, if_neg (by rcases hh with h | h | h <;> simp [h])]
    rfl

/-! ## A level at one entry -/

/-- Whether a level reaches an entry. -/
def SourceEntry.follows (e : SourceEntry) (o : Origin) : Bool := e.origin = o && e.isHold

/-- A level at one entry. -/
def State.levelAt (s : State) (o : Origin) (b : Bool) (i : Fin 16) : State :=
  if (s.source i).follows o then s.setCondition i ((s.source i).mode.asserted b) else s

theorem presentLevel_eq (s : State) (o : Origin) (b : Bool) :
    s.presentLevel o b = forEach (fun i t => t.levelAt o b i) s := rfl

/-- A level at which the entry withdraws its HOLD. -/
def State.withdrawsAt (s : State) (o : Origin) (b : Bool) (i : Fin 16) : Bool :=
  (s.source i).follows o && (s.source i).condition && !(s.source i).mode.asserted b &&
    decide ((s.source i).holdState = .announcing) && !s.holdOnBus i

theorem SameAt.withdrawsAt {i : Fin 16} {s t : State} (h : SameAt i s t) (o : Origin) (b : Bool) :
    t.withdrawsAt o b i = s.withdrawsAt o b i := by
  have hsrc : t.source i = s.source i := h.source
  rw [State.withdrawsAt, State.withdrawsAt, hsrc, h.onBus]

section
variable {s : State} {o : Origin} {b : Bool} {i : Fin 16}

theorem levelAt_of_not_follows (h : (s.source i).follows o = false) : s.levelAt o b i = s :=
  if_neg (by rw [h]; decide)

theorem levelAt_of_same (hc : (s.source i).condition = (s.source i).mode.asserted b) : s.levelAt o b i = s := by
  rw [State.levelAt, State.setCondition, if_pos hc, ite_self]

theorem levelAt_of_asserts (h : (s.source i).follows o = true) (hc : (s.source i).condition = false)
    (ha : (s.source i).mode.asserted b = true) : s.levelAt o b i = s.conditionAsserts i := by
  rw [State.levelAt, if_pos h, State.setCondition, hc, ha, if_neg (by decide), if_pos rfl]

theorem levelAt_of_drops (h : (s.source i).follows o = true) (hc : (s.source i).condition = true)
    (ha : (s.source i).mode.asserted b = false) : s.levelAt o b i = s.conditionDrops i := by
  rw [State.levelAt, if_pos h, State.setCondition, hc, ha, if_neg (by decide), if_neg (by decide)]
end

/-- A level finds an entry that does not follow it or whose condition stays, or the condition asserts, or it drops. -/
theorem levelAt_cases (s : State) (o : Origin) (b : Bool) (i : Fin 16) :
    (s.levelAt o b i = s ∧ s.withdrawsAt o b i = false) ∨
      (s.levelAt o b i = s.conditionAsserts i ∧ s.withdrawsAt o b i = false) ∨
      (s.levelAt o b i = s.conditionDrops i ∧
        s.withdrawsAt o b i = decide ((s.source i).holdState = .announcing ∧ s.holdOnBus i = false)) := by
  cases hf : (s.source i).follows o with
  | false => exact .inl ⟨levelAt_of_not_follows hf, by simp [State.withdrawsAt, hf]⟩
  | true =>
    cases hc : (s.source i).condition <;> cases ha : (s.source i).mode.asserted b
    · exact .inl ⟨levelAt_of_same (by rw [hc, ha]), by simp [State.withdrawsAt, hc]⟩
    · exact .inr (.inl ⟨levelAt_of_asserts hf hc ha, by simp [State.withdrawsAt, hc]⟩)
    · exact .inr (.inr ⟨levelAt_of_drops hf hc ha, by simp [State.withdrawsAt, hf, hc, ha]⟩)
    · exact .inl ⟨levelAt_of_same (by rw [hc, ha]), by simp [State.withdrawsAt, ha]⟩

theorem levelAt_tx (s : State) (o : Origin) (b : Bool) (i : Fin 16) :
    (s.levelAt o b i).tx = if s.withdrawsAt o b i then withdrawWaiting (.source i) s.tx else s.tx := by
  rcases levelAt_cases s o b i with ⟨h, hw⟩ | ⟨h, hw⟩ | ⟨h, hw⟩ <;> rw [h, hw]
  · exact (if_neg (by decide)).symm
  · obtain ⟨f, _, _, heq⟩ := conditionAsserts_puts s i
    rw [heq]
    exact (if_neg (by decide)).symm
  · rw [conditionDrops_list]
    simp only [decide_eq_true_eq]

theorem levelAt_sources (s : State) (o : Origin) (b : Bool) (i : Fin 16) :
    ∃ f, (s.levelAt o b i).sources = upd s.sources i f := by
  rcases levelAt_cases s o b i with ⟨h, _⟩ | ⟨h, _⟩ | ⟨h, _⟩ <;> rw [h]
  · exact ⟨s.source i, (upd_look_self _ _).symm⟩
  · obtain ⟨f, _, _, heq⟩ := conditionAsserts_puts s i
    exact ⟨f, congrArg State.sources heq⟩
  · obtain ⟨f, _, heq⟩ := conditionDrops_sources s i
    exact ⟨f, heq⟩

theorem levelAt_levelSide (s : State) (o : Origin) (b : Bool) (i : Fin 16) : LevelSide s (s.levelAt o b i) := by
  rcases levelAt_cases s o b i with ⟨h, _⟩ | ⟨h, _⟩ | ⟨h, _⟩ <;> rw [h]
  · exact .refl s
  · exact conditionAsserts_levelSide s i
  · exact conditionDrops_levelSide s i

theorem OrphanShown.levelAt {s : State} (hs : OrphanShown s) (o : Origin) (b : Bool) (i : Fin 16) :
    OrphanShown (s.levelAt o b i) := by
  rcases levelAt_cases s o b i with ⟨h, _⟩ | ⟨h, _⟩ | ⟨h, _⟩ <;> rw [h]
  · exact hs
  · exact hs.conditionAsserts i
  · exact hs.conditionDrops i

theorem levelAt_other (s : State) (o : Origin) (b : Bool) {i j : Fin 16} (h : i ≠ j) : SameAt j s (s.levelAt o b i) := by
  obtain ⟨f, hf⟩ := levelAt_sources s o b i
  have htx := levelAt_tx s o b i
  obtain ⟨⟨_, _, _, heq⟩, _⟩ := levelAt_levelSide s o b i
  refine ⟨?_, ?_, ?_, ?_⟩
  · rw [KeepsSource, State.source, hf, look_upd_ne _ _ h]
    rfl
  · have hentry : entryOf (.source j) (s.levelAt o b i).tx = entryOf (.source j) s.tx := by
      rw [htx]
      split
      · exact entryOf_withdrawWaiting (by simpa using h) s.tx
      · rfl
    unfold State.holdOnBus
    rw [hentry]
  · rw [heq]
  · rw [heq]

/-! ## The level at the whole table -/

/-- A level finds each entry as it was, and what it makes of it stays. -/
theorem presentLevel_at (s : State) (o : Origin) (b : Bool) (i : Fin 16) :
    ∃ t, SameAt i s t ∧ (s.presentLevel o b).source i = (t.levelAt o b i).source i := by
  obtain ⟨before, after, hb, ha, heq⟩ := forEach_split (fun i t => State.levelAt t o b i) i
  refine ⟨before.foldl (fun t x => t.levelAt o b x) s, ?_, ?_⟩
  · exact foldl_rel_of_mem (SameAt.refl i) SameAt.trans _ before (fun x hx t => levelAt_other t o b (hb x hx)) s
  · rw [presentLevel_eq, heq]
    exact (foldl_rel_of_mem (SameAt.refl i) SameAt.trans (fun t x => State.levelAt t o b x) after
      (fun x hx t => levelAt_other t o b (ha x hx)) _).source

section
variable {s : State} {o : Origin} {b : Bool} {i : Fin 16}

theorem presentLevel_of_not_follows (h : (s.source i).follows o = false) : (s.presentLevel o b).source i = s.source i := by
  obtain ⟨t, ht, heq⟩ := presentLevel_at s o b i
  have hsrc : t.source i = s.source i := ht.source
  rw [heq, levelAt_of_not_follows (by rw [hsrc]; exact h), hsrc]

theorem presentLevel_of_same (hc : (s.source i).condition = (s.source i).mode.asserted b) :
    (s.presentLevel o b).source i = s.source i := by
  obtain ⟨t, ht, heq⟩ := presentLevel_at s o b i
  have hsrc : t.source i = s.source i := ht.source
  rw [heq, levelAt_of_same (by rw [hsrc]; exact hc), hsrc]

theorem presentLevel_of_asserts (h : (s.source i).follows o = true) (hc : (s.source i).condition = false)
    (ha : (s.source i).mode.asserted b = true) : (s.presentLevel o b).source i = (s.conditionAsserts i).source i := by
  obtain ⟨t, ht, heq⟩ := presentLevel_at s o b i
  have hsrc : t.source i = s.source i := ht.source
  rw [heq, levelAt_of_asserts (by rw [hsrc]; exact h) (by rw [hsrc]; exact hc) (by rw [hsrc]; exact ha), ht.conditionAsserts]

theorem presentLevel_of_drops (h : (s.source i).follows o = true) (hc : (s.source i).condition = true)
    (ha : (s.source i).mode.asserted b = false) : (s.presentLevel o b).source i = (s.conditionDrops i).source i := by
  obtain ⟨t, ht, heq⟩ := presentLevel_at s o b i
  have hsrc : t.source i = s.source i := ht.source
  rw [heq, levelAt_of_drops (by rw [hsrc]; exact h) (by rw [hsrc]; exact hc) (by rw [hsrc]; exact ha), ht.conditionDrops]

/-- A hold-mode entry ends at the condition that the level says. -/
theorem presentLevel_condition (h : (s.source i).follows o = true) :
    ((s.presentLevel o b).source i).condition = (s.source i).mode.asserted b := by
  cases hc : (s.source i).condition <;> cases ha : (s.source i).mode.asserted b
  · rw [presentLevel_of_same (by rw [hc, ha]), hc]
  · obtain ⟨f, hf, _, heq⟩ := conditionAsserts_puts s i
    rw [presentLevel_of_asserts h hc ha, heq, State.source_setSource_self, hf]
  · obtain ⟨f, hf, heq⟩ := conditionDrops_sources s i
    rw [presentLevel_of_drops h hc ha, State.source, heq, look_upd_self, hf]
  · rw [presentLevel_of_same (by rw [hc, ha]), hc]
end

/-- The entries of the list that stay when the entries `l` have found a level. -/
def State.keepsAt (s : State) (o : Origin) (b : Bool) (l : List (Fin 16)) (f : TxEntry) : Bool :=
  !(l.any (fun i => f.producer = .source i && s.withdrawsAt o b i) && !f.onBus)

theorem levelFold_tx (o : Origin) (b : Bool) (l : List (Fin 16)) (hl : l.Nodup) (s : State) :
    (l.foldl (fun t i => t.levelAt o b i) s).tx = s.tx.filter (s.keepsAt o b l) := by
  induction l generalizing s with
  | nil => exact (List.filter_eq_self.2 fun _ _ => rfl).symm
  | cons i l ih =>
    obtain ⟨hi, hl⟩ := List.nodup_cons.1 hl
    have hrest : (s.levelAt o b i).keepsAt o b l = s.keepsAt o b l := by
      funext f
      unfold State.keepsAt
      congr 2
      rw [Bool.eq_iff_iff, List.any_eq_true, List.any_eq_true]
      refine exists_congr fun j => and_congr_right fun hj => ?_
      rw [(levelAt_other s o b (fun hij : i = j => hi (hij ▸ hj))).withdrawsAt]
    rw [List.foldl_cons, ih hl, hrest, levelAt_tx]
    cases hw : s.withdrawsAt o b i with
    | false =>
      rw [if_neg (by decide)]
      refine List.filter_congr fun f _ => ?_
      simp [State.keepsAt, hw]
    | true =>
      rw [if_pos rfl, withdrawWaiting, List.filter_filter]
      refine List.filter_congr fun f _ => ?_
      simp [State.keepsAt, hw]
      grind

theorem presentLevel_tx (s : State) (o : Origin) (b : Bool) :
    (s.presentLevel o b).tx = s.tx.filter (s.keepsAt o b (indices 16)) :=
  levelFold_tx o b _ (List.nodup_finRange 16) s

theorem keepsAt_eq_false_iff {s : State} {o : Origin} {b : Bool} {f : TxEntry} :
    s.keepsAt o b (indices 16) f = false ↔ f.onBus = false ∧ ∃ i, f.producer = .source i ∧ s.withdrawsAt o b i = true := by
  simp only [State.keepsAt, Bool.not_eq_false', Bool.and_eq_true, Bool.not_eq_true', List.any_eq_true, mem_indices,
    true_and, decide_eq_true_eq]
  exact and_comm

theorem withdrawsAt_iff {s : State} {o : Origin} {b : Bool} {i : Fin 16} : s.withdrawsAt o b i = true ↔
    (s.source i).origin = o ∧ (s.source i).isHold = true ∧ (s.source i).condition = true ∧
      ¬(s.source i).mode.asserted b = true ∧ (s.source i).holdState = .announcing ∧ s.holdOnBus i = false := by
  simp [State.withdrawsAt, SourceEntry.follows, and_assoc]

theorem presentLevel_orphanShown {s : State} (hs : OrphanShown s) (o : Origin) (b : Bool) :
    OrphanShown (s.presentLevel o b) :=
  forEach_rel (R := fun s t => OrphanShown s → OrphanShown t) (fun _ h => h) (fun h k hs => k (h hs)) _
    (fun i t ht => OrphanShown.levelAt (s := t) ht o b i) s hs

end Sys2Proof.Machine
end

section
/-! PROOF. A level at the source table, and the end of a stability interval, in the words of the obligation. -/

namespace Sys2Proof.Machine

/-! ## What a level does, whatever the origin -/

theorem follows_iff {e : SourceEntry} {o : Origin} : e.follows o = true ↔ e.origin = o ∧ e.isHold = true := by
  simp [SourceEntry.follows]

theorem asserted_eq_false {m : Mode} {b : Bool} (h : ¬((m = .holdHigh ∧ b = true) ∨ (m = .holdLow ∧ b = false))) :
    m.asserted b = false := by
  rw [Bool.eq_false_iff, Ne, asserted_iff]
  exact h

theorem presentLevel_frame (s : State) (o : Origin) (b : Bool) : s.presentLevel o b =
    { s with sources := (s.presentLevel o b).sources, tx := (s.presentLevel o b).tx
             faults := { s.faults with orphaned := (s.presentLevel o b).faults.orphaned } } := by
  obtain ⟨⟨_, _, _, heq⟩, _⟩ := presentLevel_levelSide s o b
  rw [heq]

/-! ## A change of the filtered level (R3, R5) -/

/-- The filtered level of line `n` is `c`, and no interval runs. -/
def State.levelSeen (s : State) (n : Fin 16) (c : Bool) : State :=
  s.setInput n { s.input n with filtered := c, stability := none }

/-- The direction of an edge to a level. -/
def edgeTo (c : Bool) : Direction := if c then .rise else .fall

/-- The changed level has been presented to the source table. -/
def State.presented (s : State) (n : Fin 16) (c : Bool) : State :=
  ((s.levelSeen n c).presentEdge (.input n) (edgeTo c)).presentLevel (.input n) c

theorem filteredChange_eq (s : State) (n : Fin 16) (c : Bool) : s.filteredChange n c = (s.presented n c).settle := rfl

/-- An edge-mode entry is no hold-mode entry. -/
theorem isHold_of_counts {e : SourceEntry} {o : Origin} {d : Direction} (h : e.mode.counts o d = true) : e.isHold = false := by
  cases hm : e.mode <;> simp_all [SourceEntry.isHold, Mode.isHold, Mode.counts]

theorem counts_of_isHold {e : SourceEntry} {o : Origin} {d : Direction} (h : e.isHold = true) :
    e.mode.counts o d = false := by
  rw [Bool.eq_false_iff]
  intro hc
  rw [isHold_of_counts hc] at h
  exact absurd h (by decide)

section
variable {s : State} {n : Fin 16} {c : Bool} {i : Fin 16}

theorem presented_counts (ho : (s.source i).origin = .input n) (hc : (s.source i).mode.counts (.input n) (edgeTo c) = true) :
    (s.presented n c).source i =
      ((s.source i).countEdge (edgeTo c)).1 := by
  have hedge := presentEdge_source (s.levelSeen n c) (.input n) (edgeTo c) i
  rw [if_pos (by
    change (s.source i).takes _ _ = true
    simp [SourceEntry.takes, ho, hc])] at hedge
  have hmode : ((s.source i).countEdge (edgeTo c)).1.isHold = false := by
    have hsame : ((s.source i).countEdge (edgeTo c)).1.isHold = (s.source i).isHold := by
      unfold SourceEntry.countEdge
      split <;> rfl
    rw [hsame, isHold_of_counts hc]
  rw [State.presented, presentLevel_of_not_follows, hedge]
  · rfl
  · rw [hedge]
    exact Bool.and_eq_false_iff.2 (.inr hmode)

theorem presented_condition (ho : (s.source i).origin = .input n) (hh : (s.source i).isHold = true) :
    ((s.presented n c).source i).condition =
      (s.source i).mode.asserted c := by
  have hedge := presentEdge_source (s.levelSeen n c) (.input n) (edgeTo c) i
  rw [if_neg (by
    change ¬(s.source i).takes _ _ = true
    simp [SourceEntry.takes, ho, counts_of_isHold hh])] at hedge
  rw [State.presented, presentLevel_condition, hedge]
  · rfl
  · rw [hedge]
    exact follows_iff.2 ⟨ho, hh⟩

theorem presented_other (ho : (s.source i).origin ≠ .input n) :
    (s.presented n c).source i = s.source i := by
  have hedge := presentEdge_source (s.levelSeen n c) (.input n) (edgeTo c) i
  rw [if_neg (by
    change ¬(s.source i).takes _ _ = true
    simp [SourceEntry.takes, ho])] at hedge
  rw [State.presented, presentLevel_of_not_follows, hedge]
  · rfl
  · rw [hedge]
    exact Bool.and_eq_false_iff.2 (.inl (decide_eq_false ho))
end

/-- What is not at the sources, the transmit side or the input lines stays. -/
structure Leaves (s t : State) : Prop where
  time : t.time = s.time
  gens : t.gens = s.gens
  outs : t.outs = s.outs
  counters : t.counters = s.counters
  groups : t.groups = s.groups
  roster : t.roster = s.roster
  subs : t.subs = s.subs
  profiles : t.profiles = s.profiles
  loader : t.loader = s.loader
  pins : t.pins = s.pins
  address : t.address = s.address

theorem Leaves.trans {s t u : State} (h : Leaves s t) (k : Leaves t u) : Leaves s u :=
  ⟨k.time.trans h.time, k.gens.trans h.gens, k.outs.trans h.outs, k.counters.trans h.counters, k.groups.trans h.groups,
    k.roster.trans h.roster, k.subs.trans h.subs, k.profiles.trans h.profiles, k.loader.trans h.loader, k.pins.trans h.pins,
    k.address.trans h.address⟩

theorem SourceSide.leaves {s t : State} (h : SourceSide s t) : Leaves s t := by
  obtain ⟨_, _, _, _, rfl⟩ := h
  exact ⟨rfl, rfl, rfl, rfl, rfl, rfl, rfl, rfl, rfl, rfl, rfl⟩

theorem SettleSide.leaves {s t : State} (h : SettleSide s t) : Leaves s t := by
  obtain ⟨_, _, _, _, _, _, _, _, rfl⟩ := h
  exact ⟨rfl, rfl, rfl, rfl, rfl, rfl, rfl, rfl, rfl, rfl, rfl⟩

theorem levelSeen_leaves (s : State) (n : Fin 16) (c : Bool) : Leaves s (s.levelSeen n c) :=
  ⟨rfl, rfl, rfl, rfl, rfl, rfl, rfl, rfl, rfl, rfl, rfl⟩

theorem filteredChange_leaves (s : State) (n : Fin 16) (c : Bool) : Leaves s (s.filteredChange n c) := by
  have hedge := (levelSeen_leaves s n c).trans (presentEdge_side _ (.input n) (edgeTo c)).leaves
  have hlevel := hedge.trans (presentLevel_side _ (.input n) c).leaves
  exact hlevel.trans (settle_side _).leaves

/-- Of an entry, admission changes the edge state. -/
theorem settle_source_eq (s : State) (i : Fin 16) :
    s.settle.source i = { s.source i with edgeState := (s.settle.source i).edgeState } := by
  rcases settle_source s i with h | ⟨_, h⟩ <;> rw [h]

theorem settle_edgeState_eq {s : State} {i : Fin 16} (h : (s.source i).edgeState ≠ .owed) : s.settle.source i = s.source i :=
  (settle_source s i).resolve_right fun hr => h hr.1

theorem settle_edgeState_ne_idle {s : State} {i : Fin 16} (h : (s.source i).edgeState ≠ .idle) :
    (s.settle.source i).edgeState ≠ .idle := by
  rcases settle_source s i with hs | ⟨_, hs⟩ <;> rw [hs]
  · exact h
  · simp

section
variable {s : State} {n : Fin 16} {c : Bool} {i : Fin 16}

theorem filteredChange_source (s : State) (n : Fin 16) (c : Bool) (i : Fin 16) : (s.filteredChange n c).source i =
    { (s.presented n c).source i with edgeState := ((s.filteredChange n c).source i).edgeState } := by
  rw [filteredChange_eq]
  exact settle_source_eq _ i

theorem filteredChange_edge_idle (ho : (s.source i).origin = .input n)
    (hc : (s.source i).mode.counts (.input n) (edgeTo c) = true) (h : (s.source i).edgeState = .idle) :
    ((s.filteredChange n c).source i).pendingCount = 1 ∧ ((s.filteredChange n c).source i).lastDir = edgeTo c ∧
      ((s.filteredChange n c).source i).edgeState ≠ .idle := by
  have hat := presented_counts ho hc
  rw [countEdge_of_idle _ h] at hat
  refine ⟨?_, ?_, ?_⟩
  · rw [filteredChange_source, hat]
  · rw [filteredChange_source, hat]
  · rw [filteredChange_eq]
    exact settle_edgeState_ne_idle (by rw [hat]; simp)

theorem filteredChange_edge_waiting (ho : (s.source i).origin = .input n)
    (hc : (s.source i).mode.counts (.input n) (edgeTo c) = true)
    (h : (s.source i).edgeState = .owed ∨ (s.source i).edgeState = .listed) :
    ((s.filteredChange n c).source i).pendingCount = satInc (s.source i).pendingCount ∧
      ((s.filteredChange n c).source i).lastDir = edgeTo c := by
  have hat := presented_counts ho hc
  rw [countEdge_of_waiting _ h] at hat
  refine ⟨?_, ?_⟩ <;> rw [filteredChange_source, hat]

theorem filteredChange_edge_sending (ho : (s.source i).origin = .input n)
    (hc : (s.source i).mode.counts (.input n) (edgeTo c) = true) (h : (s.source i).edgeState = .sending) :
    ((s.filteredChange n c).source i).nextCount = satInc (s.source i).nextCount ∧
      ((s.filteredChange n c).source i).lastDir = edgeTo c ∧
      ((s.filteredChange n c).source i).pendingCount = (s.source i).pendingCount ∧
      ((s.filteredChange n c).source i).edgeState = .sending := by
  have hat := presented_counts ho hc
  rw [countEdge_of_sending _ h] at hat
  rw [filteredChange_eq, settle_edgeState_eq (s := s.presented n c) (by rw [hat, h]; simp), hat]
  exact ⟨rfl, rfl, rfl, h⟩

theorem filteredChange_condition (ho : (s.source i).origin = .input n) (hh : (s.source i).isHold = true) :
    ((s.filteredChange n c).source i).condition = true ↔
      (s.source i).mode = .holdHigh ∧ c = true ∨ (s.source i).mode = .holdLow ∧ c = false := by
  have hcond : ((s.filteredChange n c).source i).condition = ((s.presented n c).source i).condition := by
    rw [filteredChange_source]
  rw [hcond, presented_condition ho hh]
  exact asserted_iff

theorem filteredChange_other (ho : (s.source i).origin ≠ .input n) : (s.filteredChange n c).source i =
    { s.source i with edgeState := ((s.filteredChange n c).source i).edgeState } := by
  have h := filteredChange_source s n c i
  rwa [presented_other ho] at h
end

theorem exec_stabilityExpiry {s : State} {n : Fin 16} {d : Nat} (hd : (s.input n).stability = some d)
    (hc : s.conditioned n ≠ (s.input n).filtered) : exec (.stabilityIntervalExpiry n) s =
      .next ((s.setTime (max s.time d)).filteredChange n (s.conditioned n)) := by
  have hexec : exec (.stabilityIntervalExpiry n) s = execStabilityIntervalExpiry n s := rfl
  rw [hexec, execStabilityIntervalExpiry]
  dsimp only
  rw [if_neg (by rw [hd]; simp), reach_eq hd, if_neg hc]

/-- Settles O9: by what a level and an edge make of one entry; admission then takes owed EDGEs. -/
theorem stabilityExpiryChangesTheFilteredLevel : Obligations.StabilityExpiryChangesTheFilteredLevel := by
  refine ⟨fun n s d => ?_, fun s o b => ?_⟩
  · intro l c dir seen hd hc
    have hexec : exec (.stabilityIntervalExpiry n) s = .next ((s.setTime (max s.time d)).filteredChange n c) :=
      exec_stabilityExpiry hd hc
    have hleaves := filteredChange_leaves (s.setTime (max s.time d)) n c
    exact ⟨(s.setTime (max s.time d)).filteredChange n c, hexec, hleaves.time, (filteredChange_inputs _ n c).1, rfl,
      fun i ho hcount => ⟨filteredChange_edge_idle (s := s.setTime (max s.time d)) ho hcount,
        filteredChange_edge_waiting (s := s.setTime (max s.time d)) ho hcount,
        filteredChange_edge_sending (s := s.setTime (max s.time d)) ho hcount⟩,
      fun i ho hh => filteredChange_condition (s := s.setTime (max s.time d)) ho hh,
      fun i ho => filteredChange_other (s := s.setTime (max s.time d)) ho, hleaves.gens, hleaves.outs, hleaves.counters,
      hleaves.groups, hleaves.roster, hleaves.subs, hleaves.profiles, hleaves.loader, hleaves.pins, hleaves.address⟩
  · dsimp only
    refine ⟨presentLevel_frame s o b, fun i hi => presentLevel_of_not_follows ?_, fun i ho hh => ?_,
      ⟨s.keepsAt o b (indices 16), presentLevel_tx s o b, fun f _ => ?_⟩, fun h => presentLevel_orphanShown h o b⟩
    · refine Bool.eq_false_iff.2 fun hf => ?_
      obtain ⟨ho, hh⟩ := follows_iff.1 hf
      rcases hi with hi | hi
      · exact hi ho
      · rw [hi] at hh
        exact absurd hh (by decide)
    · have hf : (s.source i).follows o = true := follows_iff.2 ⟨ho, hh⟩
      refine ⟨fun ⟨hc, ha⟩ => presentLevel_of_same ?_, fun ⟨hc, ha⟩ => presentLevel_of_same ?_, fun ⟨hc, ha⟩ => ?_,
        fun ⟨hc, ha⟩ => ?_⟩
      · rw [hc, asserted_iff.2 ha]
      · rw [hc, asserted_eq_false ha]
      · exact presentLevel_of_asserts hf hc (asserted_iff.2 ha)
      · exact presentLevel_of_drops hf hc (asserted_eq_false ha)
    · rw [keepsAt_eq_false_iff]
      simp only [withdrawsAt_iff, asserted_iff]

end Sys2Proof.Machine
end

section
/-! PROOF. A conclusion at which the entry leaves the list (R16–R18, R28, R35, R37, R38, R46, R47, R136–R139, R141, R159,
R166). -/

namespace Sys2Proof.Machine

/-! ## The outcome of the attempt (R135–R139) -/

/-- The consecutive-failure count after an entry leaves the list. -/
def failuresOf (n : Nat) : TxResult → Nat
  | .delivered => 0
  | .noAudience => n
  | .undelivered => n + 1

/-- The command at which an entry leaves the list ends an attempt, with that result. -/
theorem Removes.outcome {s : State} {f : TxEntry} {c : Instr} {r : TxResult} (h : Removes s f c r) :
    ∃ a, attemptOf c = some a ∧ s.resultOf f a = some r ∧
      failuresAfter s.bus.failures a (!s.anyPresent) = failuresOf s.bus.failures r ∧ (a = .failedBit ↔ c = .bitError) := by
  have hout : f.kind = .presence ∨ s.bus.retryLimit.toNat ≤ f.retries →
      (if f.kind = .presence then some TxResult.undelivered
        else if f.retries < s.bus.retryLimit.toNat then none else some .undelivered) = some .undelivered := by
    intro h
    split
    · rfl
    · next hk =>
      have := h.resolve_left hk
      rw [if_neg (by omega)]
  rcases h with ⟨rfl, rfl⟩ | ⟨rfl, rfl, hp⟩ | ⟨rfl, hlast, ⟨rfl, hp⟩ | ⟨ack, rfl⟩ | rfl⟩
  · exact ⟨.delivered, rfl, rfl, rfl, by simp⟩
  · have hp' : s.anyPresent = false := Bool.eq_false_iff.2 fun h => hp ((anyPresent_iff s).1 h)
    refine ⟨.failedUnheard, rfl, ?_, ?_, by simp⟩
    · simp [State.resultOf, hp']
    · simp [failuresAfter, failuresOf, hp']
  · have hp' := (anyPresent_iff s).2 hp
    refine ⟨.failedUnheard, rfl, ?_, ?_, by simp⟩
    · rw [State.resultOf, hp']
      exact hout hlast
    · simp [failuresAfter, failuresOf, hp']
  · refine ⟨.failedNak, by cases ack <;> rfl, hout hlast, rfl, by simp⟩
  · exact ⟨.failedBit, rfl, hout hlast, rfl, by simp⟩

/-- What follows when the producer has been told: self-delivery at the first whole sending, and the count (R138, R139). -/
def State.answered (u : State) (f : TxEntry) (c : Instr) (n : Nat) : State :=
  (if f.FirstSending ∧ c ≠ .bitError then u.ownDelivery f else u).counted n

/-- The station at the end of an attempt, with the head gone from the list. -/
def State.past (s : State) (c : Instr) (rest : List TxEntry) : State := { s.attemptOver c with tx := rest }

theorem attemptOver_fields (s : State) (c : Instr) :
    ∃ (b : BusInterface) (n : Vector (BitVec 8) 10), b.station = s.bus.station ∧
      s.attemptOver c = { s with bus := b, tallies := n } := by
  cases c with
  | bitError => exact ⟨{ s.bus with activity := .idle, phase := .receiving, stopped := true }, _, rfl, rfl⟩
  | attemptConclusion ack nak =>
    cases nak <;> exact ⟨{ s.bus with activity := .idle, phase := .waitingIdle, stopped := false }, _, rfl, rfl⟩
  | _ => exact ⟨{ s.bus with activity := .idle, phase := .waitingIdle, stopped := false }, _, rfl, rfl⟩

/-- At a conclusion that removes the head, the producer is told the result, and then the steps of R138 and R139 follow. -/
theorem exec_removes {s : State} {st : BitVec 4} {f : TxEntry} {rest : List TxEntry} {c : Instr} {r : TxResult}
    (hact : s.bus.activity = .attempting st) (ht : s.tx = f :: rest) (htx : TxSafe s) (hconf : s.bus.station ≠ .conflict)
    (hr : Removes s f c r) (hn : failuresOf s.bus.failures r < 32)
    (hreply : f.producer = .responder → ∀ q ∈ s.reply, q.restart = false) :
    exec c s = .next (((s.past c rest).tellConcluded f r).answered f c (failuresOf s.bus.failures r)) := by
  obtain ⟨a, hc, hres, hcount, hbit⟩ := hr.outcome
  have hrestart : s.restartsAt f a = false := by
    unfold State.restartsAt
    by_cases hp : f.producer = .responder
    · cases hq : s.reply with
      | none => simp
      | some q => simp [hreply hp q hq]
    · simp [hp]
  have hhead : (s.attemptOver c).headConcluded f rest a = (s.past c rest).tellConcluded f r := by
    unfold State.headConcluded
    rw [attemptOver_resultOf hc, hres]
    rfl
  have hone := producer_ne_of_txSafe htx ht
  have hdeliver : f.selfDelivers = true →
      ((s.past c rest).tellConcluded f r).selfDeliver f = ((s.past c rest).tellConcluded f r).ownDelivery f := by
    intro hf
    obtain ⟨b, m, hb, hover⟩ := attemptOver_fields s c
    refine selfDeliver_of_marked ?_ ?_
    · have hlist : ((s.past c rest).tellConcluded f r).tx = rest := by
        rcases tellConcluded_tx (s.past c rest) f r with h | h
        · exact h
        · exact h.trans (giveUp_of_none hone)
      have hsame : markDelivered f.producer ((s.past c rest).tellConcluded f r).tx =
          ((s.past c rest).tellConcluded f r).tx := by
        rw [hlist]
        exact markDelivered_of_ne hone
      rw [hsame]
      rfl
    · have hpast : (s.past c rest).bus.station = s.bus.station := by
        rw [State.past, hover]
        exact hb
      rcases tellConcluded_bus (s.past c rest) f r with h | h <;> rw [h]
      · rw [hpast]
        exact hconf
      · simp
  rw [exec_attempt hact ht hc, hrestart, if_neg (by decide)]
  unfold State.concluded
  dsimp only
  rw [hcount, hhead, countFailures_of_lt hn]
  unfold State.answered
  congr 2
  by_cases hf : f.FirstSending ∧ c ≠ .bitError
  · have hself := (firstSending_iff f).2 hf.1
    rw [if_pos hf, if_pos ⟨fun h => hf.2 (hbit.1 h), hself⟩, hdeliver hself]
  · rw [if_neg hf, if_neg fun h => hf ⟨(firstSending_iff f).1 h.2, fun hc => h.1 (hbit.2 hc)⟩]

/-! ## What the producers are told -/

theorem noteResult_eq (s : State) (r : TxResult) : s.noteResult r = s.resultNoted r := by
  cases r <;> rfl

theorem refreshOrphaned_of_shown {s : State} (h : OrphanShown s) : s.refreshOrphaned = s := by
  have hany : (indices 16).any (fun i => decide ((s.source i).holdState = .orphaned)) = s.faults.orphaned := by
    rw [Bool.eq_iff_iff, List.any_eq_true]
    simp only [mem_indices, true_and, decide_eq_true_eq]
    exact h.symm
  unfold State.refreshOrphaned
  rw [hany]
  rfl

section
variable {s : State} {f : TxEntry} {i : Fin 16} {r : TxResult}

theorem tellConcluded_of_edge (hp : f.producer = .source i) (hk : f.kind = .edge) : s.tellConcluded f r =
    { s.resultNoted r with sources := upd s.sources i { s.source i with
        pendingCount := (s.source i).nextCount, nextCount := 0
        edgeState := if (s.source i).nextCount = 0 then .idle else .owed } } := by
  unfold State.tellConcluded
  rw [hp, hk]
  cases r <;> rfl

theorem tellConcluded_of_hold (hp : f.producer = .source i) (hk : f.kind = .hold) :
    s.tellConcluded f r = s.holdConcluded i f.unwanted r := by
  unfold State.tellConcluded
  rw [hp, hk]

theorem tellConcluded_of_clear (hp : f.producer = .source i) (hk : f.kind = .clear) :
    s.tellConcluded f r = s.clearConcluded i r := by
  unfold State.tellConcluded
  rw [hp, hk]

theorem resultNoted_source (s : State) (r : TxResult) (i : Fin 16) : (s.resultNoted r).source i = s.source i := by
  cases r <;> rfl

theorem resultNoted_sources (s : State) (r : TxResult) : (s.resultNoted r).sources = s.sources := by
  cases r <;> rfl

theorem holdConcluded_of_gone {u : Bool} (h : u = true ∨ (s.source i).holdState ≠ .announcing) :
    s.holdConcluded i u r = s.resultNoted r := by
  unfold State.holdConcluded
  dsimp only
  rw [noteResult_eq, resultNoted_source]
  exact if_pos (by simpa using h)

theorem holdConcluded_of_drop (h : (s.source i).holdState = .announcing) (hd : (s.source i).dropNoted = true) :
    s.holdConcluded i false r =
      (s.resultNoted r).setSource i { s.source i with holdState := .ending, dropNoted := false } := by
  unfold State.holdConcluded
  dsimp only
  rw [noteResult_eq, resultNoted_source, if_neg (by simp [h]), if_pos hd]

/-- The entry awaits its releases up to a time (R28). -/
def SourceEntry.awaits (e : SourceEntry) (deadline : Nat) : SourceEntry :=
  { e with holdState := .awaiting, releaseTimer := some deadline }

/-- More releases are needed (R26). -/
theorem quorumMet_eq_false_iff {e : SourceEntry} : e.quorumMet = false ↔
    if e.quorum = 0 then ∃ a ∈ e.required, a ∉ e.received else e.received.length < e.quorum.toNat := by
  rw [← Bool.not_eq_true]
  split
  · next h =>
    rw [quorumMet_of_zero h]
    push Not
    rfl
  · next h => rw [quorumMet_of_number h, not_le]

theorem holdConcluded_of_announced (h : (s.source i).holdState = .announcing) (hd : (s.source i).dropNoted = false) :
    s.holdConcluded i false r = ((s.resultNoted r).setSource i
      ((s.source i).awaits (s.time + s.releaseTimeout.toNat * 10000))).testQuorum i := by
  have htimer : (s.resultNoted r).releaseTimerStart = some (s.time + s.releaseTimeout.toNat * 10000) := by cases r <;> rfl
  unfold State.holdConcluded
  dsimp only
  rw [noteResult_eq, resultNoted_source, if_neg (by simp [h]), if_neg (by simp [hd]), htimer]
  rfl

/-- The entry `i` after its CLEAR (R37). -/
def SourceEntry.cleared (e : SourceEntry) : SourceEntry :=
  { e with announced := false, predOpen := false, holdState := .quiet }

theorem SourceEntry.cleared_eq {e : SourceEntry} (hrel : e.releaseTimer = none) (hrep : e.repeatTimer = none)
    (hdrop : e.dropNoted = false) :
    ({ e with announced := false, predOpen := false, dropNoted := false, holdState := .quiet, releaseTimer := none
              repeatTimer := none } : SourceEntry) = e.cleared := by
  cases e
  simp_all [SourceEntry.cleared]

/-- The entry at the start of the HOLD that follows its CLEAR (R25, R37). -/
def SourceEntry.restarted (e : SourceEntry) (required : List Addr) : SourceEntry :=
  { e with inst := e.inst + 1, received := [], required := required, reannounces := 0, announced := false
           predOpen := false, holdState := .announcing }

theorem SourceEntry.restarted_eq {e : SourceEntry} (hrel : e.releaseTimer = none) (hrep : e.repeatTimer = none)
    (hdrop : e.dropNoted = false) (required : List Addr) :
    ({ e.cleared with inst := e.cleared.inst + 1, received := [], required := required, reannounces := 0
                      announced := false, dropNoted := false, predOpen := false, releaseTimer := none
                      repeatTimer := none, holdState := .announcing } : SourceEntry) = e.restarted required := by
  cases e
  simp_all [SourceEntry.cleared, SourceEntry.restarted]

theorem clearConcluded_of_ending (h : (s.source i).holdState = .ending) (hs : HoldsSafe s) : s.clearConcluded i r =
    if (s.source i).condition then (s.resultNoted r).setSource i ((s.source i).restarted (s.requiredFor (s.source i)))
    else (s.resultNoted r).setSource i (s.source i).cleared := by
  obtain ⟨hfit, hshown⟩ := hs
  obtain ⟨hrel, hrep, hdrop⟩ := hfit i
  have hrel' : (s.source i).releaseTimer = none := by simpa [h] using hrel
  have hrep' : (s.source i).repeatTimer = none := by simpa [h] using hrep
  have hdrop' : (s.source i).dropNoted = false := by simpa [h] using hdrop
  have hnoted : OrphanShown (s.resultNoted r) := by
    have hfaults : (s.resultNoted r).faults.orphaned = s.faults.orphaned := by cases r <;> rfl
    simp only [OrphanShown, hfaults, resultNoted_source]
    exact hshown
  have hquiet : OrphanShown ((s.resultNoted r).setSource i (s.source i).cleared) :=
    hnoted.put (by simp [SourceEntry.cleared, resultNoted_source, h])
  unfold State.clearConcluded
  dsimp only
  rw [noteResult_eq, resultNoted_source, SourceEntry.cleared_eq hrel' hrep' hdrop', refreshOrphaned_of_shown hquiet]
  have hrequired : ((s.resultNoted r).setSource i (s.source i).cleared).requiredFor (s.source i).cleared =
      s.requiredFor (s.source i) := by cases r <;> rfl
  have hstart : ((s.resultNoted r).setSource i (s.source i).cleared).startInst i false =
      (s.resultNoted r).setSource i ((s.source i).restarted (s.requiredFor (s.source i))) := by
    rw [State.startInst, State.source_setSource_self, State.setSource_setSource, hrequired,
      SourceEntry.restarted_eq hrel' hrep' hdrop']
  rw [hstart]
end

section
variable {s : State} {f : TxEntry} {r : TxResult}

theorem tellConcluded_of_record {j : Fin 8} (hp : f.producer = .record j) :
    s.tellConcluded f r = s.releaseConcluded j f.unwanted r := by
  unfold State.tellConcluded
  rw [hp]

theorem tellConcluded_of_join (hp : f.producer = .beacon) (hk : f.kind = .join) : s.tellConcluded f r =
    { s.resultNoted r with
      bus := { (s.resultNoted r).bus with station := .joined }, outs := s.outs.map (fun l => { l with forcedSafe := false }) } := by
  unfold State.tellConcluded
  rw [hp]
  dsimp only
  rw [if_pos hk, enterState_free rfl, noteResult_eq]
  cases r <;> rfl

theorem tellConcluded_of_presence (hp : f.producer = .beacon) (hk : f.kind = .presence) : s.tellConcluded f r = s := by
  unfold State.tellConcluded
  rw [hp]
  dsimp only
  rw [if_neg (by simp [hk])]
end

/-! ## The obligation -/

/-- Settles O39, by the kind of the entry that leaves the list. -/
theorem deliveryIsToldToTheSource : Obligations.DeliveryIsToldToTheSource := by
  intro s st f rest c r n hact ht htx hconf hr hn hlt
  obtain rfl : n = failuresOf s.bus.failures r := by rw [hn]; cases r <;> rfl
  have hexec : (f.producer = .responder → ∀ q ∈ s.reply, q.restart = false) → ∀ u, (s.past c rest).tellConcluded f r = u →
      exec c s = .next (u.answered f c (failuresOf s.bus.failures r)) := by
    rintro hreply _ rfl
    exact exec_removes hact ht htx hconf hr hlt hreply
  obtain ⟨b, m, _, hover⟩ := attemptOver_fields s c
  have hpast : s.past c rest = { s with bus := b, tallies := m, tx := rest } := by rw [State.past, hover]
  have hsources : (s.past c rest).sources = s.sources := by rw [hpast]
  have hslots : (s.past c rest).slots = s.slots := by rw [hpast]
  have houts : (s.past c rest).outs = s.outs := by rw [hpast]
  have hdeadline : (s.past c rest).time + (s.past c rest).releaseTimeout.toNat * 10000 =
      s.time + s.releaseTimeout.toNat * 10000 := by rw [hpast]
  have hrequired : ∀ e, (s.past c rest).requiredFor e = s.requiredFor e := fun e => by
    rw [hpast]
    rfl
  have hsource : ∀ i, (s.past c rest).source i = s.source i := fun i => by rw [State.source, hsources]; rfl
  have htold : ∀ i x, ((s.past c rest).resultNoted r).setSource i x =
      { (s.past c rest).resultNoted r with sources := upd s.sources i x } := fun i x => by
    rw [State.setSource, resultNoted_sources, hsources]
  refine ⟨fun i hp => ?_, fun j hp hk => ⟨fun hu => ?_, fun hu => ?_⟩, fun hp hk => ?_, fun hp hk => ?_,
    fun hp hk hq => ?_⟩
  · have hnot : f.producer = .responder → ∀ q ∈ s.reply, q.restart = false := fun h => by simp [hp] at h
    refine ⟨fun hk => ?_, fun hk hgone => ?_, fun hk hu ha hd => ?_, fun hk hu ha hd => ?_, fun hk he hsafe => ?_⟩
    · refine hexec hnot _ ?_
      rw [tellConcluded_of_edge hp hk, hsource, hsources]
      rfl
    · refine hexec hnot _ ?_
      rw [tellConcluded_of_hold hp hk]
      exact holdConcluded_of_gone (by rw [hsource]; exact hgone)
    · refine hexec hnot _ ?_
      rw [tellConcluded_of_hold hp hk, hu, holdConcluded_of_drop (by rw [hsource]; exact ha) (by rw [hsource]; exact hd),
        hsource, htold]
      rfl
    · have hw := tellConcluded_of_hold (s := s.past c rest) (r := r) hp hk
      rw [hu, holdConcluded_of_announced (by rw [hsource]; exact ha) (by rw [hsource]; exact hd), hsource, hdeadline,
        State.testQuorum, State.source_setSource_self] at hw
      refine ⟨fun hopen => hexec hnot _ ?_, fun hmet => hexec hnot _ ?_⟩
      · have hq := (quorumMet_eq_false_iff (e := (s.source i).awaits (s.time + s.releaseTimeout.toNat * 10000))).2 hopen
        rw [hw, hq, if_neg (by decide), htold]
        rfl
      · have hq := Bool.eq_true_of_not_eq_false (mt (quorumMet_eq_false_iff
          (e := (s.source i).awaits (s.time + s.releaseTimeout.toNat * 10000))).1 hmet)
        rw [hw, hq, if_pos rfl, htold]
        rfl
    · have hw := tellConcluded_of_clear (s := s.past c rest) (r := r) hp hk
      have hsafe' : HoldsSafe (s.past c rest) := by
        rw [hpast]
        exact hsafe
      rw [clearConcluded_of_ending (by rw [hsource]; exact he) hsafe', hsource] at hw
      refine ⟨fun hc => hexec hnot _ ?_, fun hc => hexec hnot _ ?_⟩
      · rw [hw, if_neg (by rw [hc]; decide), htold]
        rfl
      · rw [hw, if_pos hc, htold, hrequired]
        rfl
  · refine hexec (fun h => by simp [hp] at h) _ ?_
    rw [tellConcluded_of_record hp, State.releaseConcluded, hu]
    rfl
  · refine hexec (fun h => by simp [hp] at h) _ ?_
    have hslots' : ((s.past c rest).resultNoted r).slots = s.slots := by
      rw [← hslots]
      cases r <;> rfl
    rw [tellConcluded_of_record hp, State.releaseConcluded, hu, noteResult_eq, if_neg (by decide), State.setRecordState,
      State.setSlot, State.slot, hslots']
    rfl
  · refine hexec (fun h => by simp [hp] at h) _ ?_
    rw [tellConcluded_of_join hp hk, houts]
    rfl
  · refine hexec (fun h => by simp [hp] at h) _ ?_
    exact tellConcluded_of_presence hp hk
  · refine hexec (fun _ => hq) _ ?_
    rw [tellConcluded_responder _ hp, noteResult_eq]
    rfl

end Sys2Proof.Machine
end

section
/-! PROOF. What a flush leaves each producer (R19, R21, R51, R142, R167). -/

namespace Sys2Proof.Machine

/-! ## The EDGE of one entry (R19) -/

theorem countTimes_fields (s : State) (t : TallyName) (k : Nat) : ∃ n, s.countTimes t k = { s with tallies := n } := by
  induction k generalizing s with
  | zero => exact ⟨s.tallies, rfl⟩
  | succ k ih =>
    obtain ⟨n, h⟩ := ih (s.count t)
    exact ⟨n, h⟩

/-- How many edges a flush of its EDGE loses at an entry (R19). -/
def SourceEntry.over (e : SourceEntry) : Nat := e.pendingCount.toNat + e.nextCount.toNat - 15

theorem edgeFlushed_loses (s : State) (i : Fin 16) : Loses s (s.source i).over (s.edgeFlushed i) := by
  have htallies := countTimes_tallies_congr (s := s.setSource i (s.source i).flushed) (u := s) rfl .lostEdges
    (s.source i).over
  obtain ⟨n, hn⟩ := countTimes_fields (s.setSource i (s.source i).flushed) .lostEdges (s.source i).over
  by_cases hz : (s.source i).over = 0
  · rw [edgeFlushed_of_room hz]
    change Loses s _ ((s.setSource i (s.source i).flushed).countTimes .lostEdges (s.source i).over)
    rw [hz]
    exact .none rfl rfl
  · rw [edgeFlushed_of_overflow hz]
    refine ⟨htallies, ?_⟩
    rw [if_neg hz]
    change { ((s.setSource i (s.source i).flushed).countTimes .lostEdges (s.source i).over).faults with lostEdges := true } = _
    rw [hn]
    rfl

theorem flushed_flushed (e : SourceEntry) : e.flushed.flushed = e.flushed := by
  have hsum : ∀ a b : BitVec 4, (limitedSum (limitedSum a b).1 0).1 = (limitedSum a b).1 := by decide
  unfold SourceEntry.flushed
  dsimp only
  rw [hsum]

theorem edgeFlushed_fields (s : State) (i : Fin 16) : ∃ src n f,
    s.edgeFlushed i = { s with sources := src, tallies := n, faults := f } := by
  obtain ⟨n, hn⟩ := countTimes_fields (s.setSource i (s.source i).flushed) .lostEdges
    (limitedSum (s.source i).pendingCount (s.source i).nextCount).2
  by_cases hz : (limitedSum (s.source i).pendingCount (s.source i).nextCount).2 = 0
  · rw [edgeFlushed_of_room hz, hn]
    exact ⟨_, _, _, rfl⟩
  · rw [edgeFlushed_of_overflow hz, hn]
    exact ⟨_, _, _, rfl⟩

/-! ## One producer told -/

/-- A RELEASE that its record still wants. -/
def TxEntry.isWantedOf (j : Fin 8) (e : TxEntry) : Bool := e.producer = .record j && !e.unwanted

/-- A record that owes its RELEASE again (R51). -/
def AcceptRecord.owedAgain (r : AcceptRecord) : AcceptRecord := { r with state := .releaseOwed, releaseListed := false }

/-- A reply that is owed again (R167). -/
def Reply.owedAgain (r : Reply) : Reply := { r with state := .owed }

section
variable {s : State} {e : TxEntry}

theorem tellFlushed_of_record {j : Fin 8} (hp : e.producer = .record j) :
    s.tellFlushed e = if e.unwanted then s else s.releaseFlushed j := by
  rw [State.tellFlushed, hp]

theorem tellFlushed_of_source {i : Fin 16} (hp : e.producer = .source i) :
    s.tellFlushed e = if e.kind = .edge then s.edgeFlushed i else s := by
  rw [State.tellFlushed, hp]

theorem tellFlushed_of_responder (hp : e.producer = .responder) :
    s.tellFlushed e = s.setReply (s.reply.map Reply.owedAgain) := by
  rw [State.tellFlushed, hp]
  rfl

theorem tellFlushed_of_beacon (hp : e.producer = .beacon) :
    s.tellFlushed e = if e.kind = .join then s.setBeacon { s.beacon with owesJoin := true } else s := by
  rw [State.tellFlushed, hp]
end

section
variable (s : State) (e : TxEntry)

theorem tellFlushed_source (i : Fin 16) :
    (s.tellFlushed e).source i = if e.isEdgeOf i then (s.source i).flushed else s.source i := by
  by_cases h : e.isEdgeOf i = true
  · obtain ⟨hk, hp⟩ : e.kind = .edge ∧ e.producer = .source i := by simpa [TxEntry.isEdgeOf] using h
    rw [if_pos h, State.source, tellFlushed_sources_of_edge hk hp, look_upd_self]
  · rw [if_neg h]
    rcases tellFlushed_sources s e with heq | ⟨j, hk, hp, heq⟩
    · rw [State.source, heq]
      rfl
    · have hji : j ≠ i := fun hji => h (by simp [TxEntry.isEdgeOf, hk, hp, hji])
      rw [State.source, heq, look_upd_ne _ _ hji]
      rfl

/-- A projection that only the RELEASEs, the REPORT or the JOIN of a list change is not changed by the EDGE of an entry. -/
theorem tellFlushed_of_edgeFree {α : Type} {get : State → α}
    (hget : ∀ src n f, get { s with sources := src, tallies := n, faults := f } = get s) {i : Fin 16}
    (hp : e.producer = .source i) : get (s.tellFlushed e) = get s := by
  rw [tellFlushed_of_source hp]
  split
  · obtain ⟨_, _, _, h⟩ := edgeFlushed_fields s i
    rw [h]
    exact hget _ _ _
  · rfl

theorem tellFlushed_slot (j : Fin 8) : (s.tellFlushed e).slot j =
    if e.isWantedOf j then (s.slot j).map AcceptRecord.owedAgain else s.slot j := by
  cases hp : e.producer with
  | record k =>
    rw [tellFlushed_of_record hp]
    cases hu : e.unwanted with
    | true => simp [TxEntry.isWantedOf, hu]
    | false =>
      by_cases hkj : k = j
      · simp [TxEntry.isWantedOf, hp, hu, State.releaseFlushed, State.setRecordState, hkj]
        rfl
      · simp [TxEntry.isWantedOf, hp, hu, State.releaseFlushed, State.setRecordState, State.slot_setSlot, hkj]
  | source i =>
    have hno : e.isWantedOf j = false := by simp [TxEntry.isWantedOf, hp]
    rw [hno, if_neg Bool.false_ne_true]
    exact tellFlushed_of_edgeFree s e (get := fun t => t.slot j) (fun _ _ _ => rfl) hp
  | responder =>
    have hno : e.isWantedOf j = false := by simp [TxEntry.isWantedOf, hp]
    rw [hno, if_neg Bool.false_ne_true, tellFlushed_of_responder hp]
    rfl
  | beacon =>
    have hno : e.isWantedOf j = false := by simp [TxEntry.isWantedOf, hp]
    rw [hno, if_neg Bool.false_ne_true, tellFlushed_of_beacon hp]
    split <;> rfl

theorem tellFlushed_reply : (s.tellFlushed e).reply =
    if e.isOf .responder then s.reply.map Reply.owedAgain else s.reply := by
  cases hp : e.producer with
  | record k =>
    have hno : e.isOf .responder = false := by simp [TxEntry.isOf, hp]
    rw [hno, if_neg Bool.false_ne_true, tellFlushed_of_record hp]
    split <;> rfl
  | source i =>
    have hno : e.isOf .responder = false := by simp [TxEntry.isOf, hp]
    rw [hno, if_neg Bool.false_ne_true]
    exact tellFlushed_of_edgeFree s e (get := State.reply) (fun _ _ _ => rfl) hp
  | responder =>
    rw [tellFlushed_of_responder hp, if_pos (by simp [TxEntry.isOf, hp])]
    rfl
  | beacon =>
    have hno : e.isOf .responder = false := by simp [TxEntry.isOf, hp]
    rw [hno, if_neg Bool.false_ne_true, tellFlushed_of_beacon hp]
    split <;> rfl

theorem tellFlushed_owesJoin : (s.tellFlushed e).beacon.owesJoin = if e.isJoin then true else s.beacon.owesJoin := by
  cases hp : e.producer with
  | record k =>
    have hno : e.isJoin = false := by simp [TxEntry.isJoin, hp]
    rw [hno, if_neg Bool.false_ne_true, tellFlushed_of_record hp]
    split <;> rfl
  | source i =>
    have hno : e.isJoin = false := by simp [TxEntry.isJoin, hp]
    rw [hno, if_neg Bool.false_ne_true]
    exact tellFlushed_of_edgeFree s e (get := fun t => t.beacon.owesJoin) (fun _ _ _ => rfl) hp
  | responder =>
    have hno : e.isJoin = false := by simp [TxEntry.isJoin, hp]
    rw [hno, if_neg Bool.false_ne_true, tellFlushed_of_responder hp]
    rfl
  | beacon =>
    rw [tellFlushed_of_beacon hp]
    by_cases hk : e.kind = .join <;> simp [TxEntry.isJoin, hp, hk]
end

/-- What the flush leaves alone. -/
def FlushSide (s t : State) : Prop := ∃ src r rp j n f, t = { s with
  sources := src, slots := r, reply := rp, beacon := { s.beacon with owesJoin := j }, tallies := n, faults := f }

theorem FlushSide.refl (s : State) : FlushSide s s := ⟨_, _, _, _, _, _, rfl⟩

theorem FlushSide.trans {s t u : State} (h : FlushSide s t) (k : FlushSide t u) : FlushSide s u := by
  obtain ⟨_, _, _, _, _, _, rfl⟩ := h
  obtain ⟨_, _, _, _, _, _, rfl⟩ := k
  exact ⟨_, _, _, _, _, _, rfl⟩

theorem tellFlushed_flushSide (s : State) (e : TxEntry) : FlushSide s (s.tellFlushed e) := by
  cases hp : e.producer with
  | record k =>
    rw [tellFlushed_of_record hp]
    split
    · exact .refl s
    · exact ⟨_, _, _, _, _, _, rfl⟩
  | source i =>
    obtain ⟨_, _, _, h⟩ := edgeFlushed_fields s i
    rw [tellFlushed_of_source hp, h]
    split
    · exact ⟨_, _, _, _, _, _, rfl⟩
    · exact .refl s
  | responder =>
    rw [tellFlushed_of_responder hp]
    exact ⟨_, _, _, _, _, _, rfl⟩
  | beacon =>
    rw [tellFlushed_of_beacon hp]
    split
    · exact ⟨_, _, _, _, _, _, rfl⟩
    · exact .refl s

/-! ## Every producer told -/

/-- What one producer is told, once or again, it is told when any entry of the list tells it. -/
theorem foldl_told {α : Type} (f : α → α) (hf : ∀ x, f (f x) = f x) (get : State → α) (p : TxEntry → Bool)
    (h : ∀ s e, get (State.tellFlushed s e) = if p e then f (get s) else get s) (l : List TxEntry) (s : State) :
    get (l.foldl State.tellFlushed s) = if l.any p then f (get s) else get s := by
  induction l generalizing s with
  | nil => rfl
  | cons e l ih =>
    rw [List.foldl_cons, ih, h, List.any_cons]
    exact told_twice hf _ _ _

section
variable (s : State)

theorem flush_source (i : Fin 16) :
    s.flush.source i = if s.tx.any (TxEntry.isEdgeOf i) then (s.source i).flushed else s.source i :=
  foldl_told SourceEntry.flushed flushed_flushed (fun t => t.source i) _ (fun t e => tellFlushed_source t e i) s.tx (s.setTx [])

theorem flush_slot (j : Fin 8) : s.flush.slot j =
    if s.tx.any (TxEntry.isWantedOf j) then (s.slot j).map AcceptRecord.owedAgain else s.slot j :=
  foldl_told (Option.map AcceptRecord.owedAgain) (fun x => by cases x <;> rfl) (fun t => t.slot j) _
    (fun t e => tellFlushed_slot t e j) s.tx (s.setTx [])

theorem flush_reply : s.flush.reply = if s.tx.any (TxEntry.isOf .responder) then s.reply.map Reply.owedAgain else s.reply :=
  foldl_told (Option.map Reply.owedAgain) (fun x => by cases x <;> rfl) State.reply _ tellFlushed_reply s.tx (s.setTx [])

theorem flush_owesJoin : s.flush.beacon.owesJoin = if s.tx.any TxEntry.isJoin then true else s.beacon.owesJoin :=
  foldl_told (fun _ => true) (fun _ => rfl) (fun t => t.beacon.owesJoin) _ tellFlushed_owesJoin s.tx (s.setTx [])
end

/-! ## The edges lost (R19) -/

/-- How many edges an entry loses to the flush of a list. -/
def State.overAt (s : State) (l : List TxEntry) (i : Fin 16) : Nat :=
  if l.any (TxEntry.isEdgeOf i) then (s.source i).over else 0

theorem sum_of_edge {e : TxEntry} {i : Fin 16} (hk : e.kind = .edge) (hp : e.producer = .source i) (s : State) :
    ∑ j, s.overAt [e] j = (s.source i).over := by
  have hone : ∀ j, s.overAt [e] j = if i = j then (s.source j).over else 0 := fun j => by
    simp [State.overAt, TxEntry.isEdgeOf, hk, hp]
  simp [hone]

theorem tellFlushed_loses (s : State) (e : TxEntry) : Loses s (∑ i, s.overAt [e] i) (s.tellFlushed e) := by
  have hzero : (∀ i, e.isEdgeOf i = false) → ∑ i, s.overAt [e] i = 0 := fun h => by simp [State.overAt, h]
  cases hp : e.producer with
  | record k =>
    rw [hzero fun i => by simp [TxEntry.isEdgeOf, hp], tellFlushed_of_record hp]
    split <;> exact .none rfl rfl
  | source i =>
    rw [tellFlushed_of_source hp]
    by_cases hk : e.kind = .edge
    · rw [if_pos hk, sum_of_edge hk hp]
      exact edgeFlushed_loses s i
    · rw [if_neg hk, hzero fun i => by simp [TxEntry.isEdgeOf, hk]]
      exact .none rfl rfl
  | responder =>
    rw [hzero fun i => by simp [TxEntry.isEdgeOf, hp], tellFlushed_of_responder hp]
    exact .none rfl rfl
  | beacon =>
    rw [hzero fun i => by simp [TxEntry.isEdgeOf, hp], tellFlushed_of_beacon hp]
    split <;> exact .none rfl rfl

/-- The entries of a list in order lose edges at different places of the source table. -/
theorem overAt_cons (s : State) {e : TxEntry} {l : List TxEntry} (h : e.producer ∉ l.map TxEntry.producer) (i : Fin 16) :
    s.overAt (e :: l) i = s.overAt [e] i + (s.tellFlushed e).overAt l i := by
  unfold State.overAt
  rw [tellFlushed_source, List.any_cons, List.any_cons, List.any_nil, Bool.or_false]
  cases he : e.isEdgeOf i with
  | false => simp
  | true =>
    have hl : l.any (TxEntry.isEdgeOf i) = false := by
      rw [List.any_eq_false]
      intro x hx hxi
      have hep : e.producer = .source i := (by simpa [TxEntry.isEdgeOf] using he : _ ∧ _).2
      have hxp : x.producer = .source i := (by simpa [TxEntry.isEdgeOf] using hxi : _ ∧ _).2
      exact h (List.mem_map.2 ⟨x, hx, hxp.trans hep.symm⟩)
    simp [hl]

theorem flushFold_loses (l : List TxEntry) (hl : (l.map TxEntry.producer).Nodup) (s : State) :
    Loses s (∑ i, s.overAt l i) (l.foldl State.tellFlushed s) := by
  induction l generalizing s with
  | nil => exact (show ∑ i, s.overAt [] i = 0 by simp [State.overAt]) ▸ .none rfl rfl
  | cons e l ih =>
    obtain ⟨he, hl⟩ := List.nodup_cons.1 hl
    have hsum : ∑ i, s.overAt (e :: l) i = ∑ i, s.overAt [e] i + ∑ i, (s.tellFlushed e).overAt l i := by
      rw [← Finset.sum_add_distrib]
      exact Finset.sum_congr rfl fun i _ => overAt_cons s he i
    rw [hsum]
    exact (tellFlushed_loses s e).trans (ih hl _)

theorem flush_loses {s : State} (h : (s.tx.map TxEntry.producer).Nodup) : Loses s (∑ i, s.overAt s.tx i) s.flush := by
  have hfold := flushFold_loses s.tx h (s.setTx [])
  have hsame : (s.setTx []).overAt s.tx = s.overAt s.tx := rfl
  rw [hsame] at hfold
  obtain ⟨htallies, hfaults⟩ := hfold
  have hcongr := countTimes_tallies_congr (s := s.setTx []) (u := s) rfl .lostEdges (∑ i, s.overAt s.tx i)
  exact ⟨htallies.trans hcongr, hfaults⟩

theorem flush_frame (s : State) : s.flush = { s with
    tx := [], sources := s.flush.sources, slots := s.flush.slots, reply := s.flush.reply
    beacon := { s.beacon with owesJoin := s.flush.beacon.owesJoin, owesPresence := false }
    tallies := s.flush.tallies, faults := s.flush.faults } := by
  obtain ⟨_, _, _, _, _, _, h⟩ := foldl_rel FlushSide.refl FlushSide.trans _ tellFlushed_flushSide s.tx (s.setTx [])
  unfold State.flush
  dsimp only
  rw [h]
  rfl

end Sys2Proof.Machine
end

section
/-! PROOF. The failed attempt that takes the station to WITHDRAWN (R139, R142). -/

namespace Sys2Proof.Machine

/-! ## The entry into WITHDRAWN (R142) -/

/-- The station in WITHDRAWN before the stops (R142). -/
def State.toWithdrawn (s : State) : State :=
  { s.flush with
    bus := { s.flush.bus with
      station := .withdrawn, failures := 0, fresh := false, holdOff := some (s.time + 256000) }
    faults := { s.flush.faults with withdrawn := true }
    outs := s.outs.map (fun l => { l with forcedSafe := s.bus.safeOnWithdraw }) }

theorem withdraw_eq (t : State) :
    ((t.setBus { t.bus with failures := 0, fresh := false, holdOff := t.timerFor withdrawUs }).latch .withdrawn).moveTo
        .withdrawn =
      { t with
        bus := { t.bus with station := .withdrawn, failures := 0, fresh := false, holdOff := some (t.time + 256000) }
        faults := { t.faults with withdrawn := true }
        outs := t.outs.map (fun l => { l with forcedSafe := t.bus.safeOnWithdraw }) } := by
  simp only [State.moveTo, State.latch, State.setFaults, State.setForced, State.setBus, FaultSet.put, forcedIn,
    State.timerFor, withdrawUs]

theorem flush_time (s : State) : s.flush.time = s.time := by rw [flush_frame]

theorem enterWithdrawn_eq (s : State) :
    s.enterWithdrawn = if s.bus.safeOnWithdraw then s.toWithdrawn.stopAll else s.toWithdrawn := by
  have hbus := (flush_bus_tx s).1
  have hmove : ((s.flush.setBus { s.flush.bus with failures := 0, fresh := false, holdOff := s.flush.timerFor withdrawUs }).latch
      .withdrawn).moveTo .withdrawn = s.toWithdrawn := by
    rw [withdraw_eq, State.toWithdrawn, flush_time, flush_outs, hbus]
  unfold State.enterWithdrawn
  dsimp only
  rw [enterState_eq, hmove]
  have hforced : forcedIn .withdrawn ((s.flush.setBus { s.flush.bus with
      failures := 0, fresh := false, holdOff := s.flush.timerFor withdrawUs }).latch .withdrawn).bus.safeOnWithdraw =
      s.bus.safeOnWithdraw := by
    rw [← hbus]
    rfl
  rw [hforced]

/-- WITHDRAWN, before or after the stops, shows what it is. -/
structure Withdrawn (s t : State) : Prop where
  bus : t.bus = { s.bus with station := .withdrawn, failures := 0, fresh := false, holdOff := some (s.time + 256000) }
  tx : t.tx = []
  faults : t.faults.withdrawn = true
  owes : t.beacon.owesPresence = false
  roster : t.roster = s.roster
  lines : ∀ o, (t.out o).forcedSafe = s.bus.safeOnWithdraw

theorem toWithdrawn_withdrawn (s : State) : Withdrawn s s.toWithdrawn where
  bus := by rw [State.toWithdrawn, (flush_bus_tx s).1]
  tx := (flush_bus_tx s).2
  faults := rfl
  owes := rfl
  roster := by
    rw [State.toWithdrawn, flush_frame]
  lines o := by
    rw [State.toWithdrawn, State.out, look_map_forced]

theorem Withdrawn.stopped {s t u : State} (h : Withdrawn s t) (k : StopKeeps t u) : Withdrawn s u := by
  obtain ⟨hside, htx, hfaults, hlines, _, _, _⟩ := k
  have hkept : u.beacon = t.beacon ∧ u.roster = t.roster := by
    obtain ⟨_, _, _, _, _, _, _, h⟩ := hside
    rw [h]
    exact ⟨rfl, rfl⟩
  refine ⟨hside.action.bus_eq.trans h.bus, ?_, by rw [hfaults]; exact h.faults, by rw [hkept.1]; exact h.owes,
    hkept.2.trans h.roster, fun o => (hlines o).1.trans (h.lines o)⟩
  rw [h.tx] at htx
  exact List.sublist_nil.1 htx

theorem enterWithdrawn_withdrawn (s : State) : Withdrawn s s.enterWithdrawn := by
  rw [enterWithdrawn_eq]
  split
  · exact (toWithdrawn_withdrawn s).stopped (stopAll_stopKeeps _)
  · exact toWithdrawn_withdrawn s

theorem enterWithdrawn_idle {s : State} (h : s.bus.safeOnWithdraw = true) (g : Fin 8) :
    (s.enterWithdrawn.gen g).phase = .idle := by
  rw [enterWithdrawn_eq, if_pos h]
  exact stopAll_idle _ g

/-! ## What the station is before it withdraws -/

/-- The time base, the roster and what of the bus interface lasts through the conclusion. -/
structure Steady (s t : State) : Prop where
  time : t.time = s.time
  roster : t.roster = s.roster
  bus : ∃ st ph sp, t.bus = { s.bus with activity := .idle, station := st, phase := ph, stopped := sp }

theorem attemptOver_steady (s : State) (c : Instr) : Steady s (s.attemptOver c) := by
  cases c with
  | bitError => exact ⟨rfl, rfl, _, _, _, rfl⟩
  | attemptConclusion ack nak => cases nak <;> exact ⟨rfl, rfl, _, _, _, rfl⟩
  | _ => exact ⟨rfl, rfl, _, _, _, rfl⟩

theorem Steady.headConcluded {s t : State} (h : Steady s t) (e : TxEntry) (rest : List TxEntry) (a : Attempt) :
    Steady s (t.headConcluded e rest a) := by
  obtain ⟨st, ph, sp, hbus⟩ := h.bus
  have hkept : (t.headConcluded e rest a).time = t.time ∧ (t.headConcluded e rest a).roster = t.roster := by
    rcases headConcluded_transmit t e rest a with ⟨⟨_, _, _, _, _, _, _, _, _, _, _, _, h⟩, _⟩ |
      ⟨u, ⟨⟨_, _, _, _, _, _, _, _, _, _, _, _, rfl⟩, _⟩, h⟩ <;> rw [h] <;> exact ⟨rfl, rfl⟩
  refine ⟨hkept.1.trans h.time, hkept.2.trans h.roster, ?_⟩
  rcases headConcluded_bus t e rest a with hb | hb <;> rw [hb, hbus]
  · exact ⟨st, ph, sp, rfl⟩
  · exact ⟨.joined, ph, sp, rfl⟩

theorem Steady.selfDeliver {s t : State} (h : Steady s t) (e : TxEntry) : Steady s (t.selfDeliver e) := by
  have hkept : (t.selfDeliver e).time = t.time ∧ (t.selfDeliver e).roster = t.roster := by
    unfold State.selfDeliver
    dsimp only
    split
    · obtain ⟨_, _, _, _, _, _, _, _, _, _, h⟩ := dispatchEdge_side _ _ _ _
      rw [h]
      exact ⟨rfl, rfl⟩
    · obtain ⟨_, _, _, _, _, _, _, _, _, _, h⟩ := selfHold_side _ _ _
      rw [h]
      exact ⟨rfl, rfl⟩
    · obtain ⟨_, _, _, _, _, _, _, _, _, _, h⟩ := dispatchClear_side _ _ _
      rw [h]
      exact ⟨rfl, rfl⟩
    · exact ⟨rfl, rfl⟩
  refine ⟨hkept.1.trans h.time, hkept.2.trans h.roster, ?_⟩
  rw [selfDeliver_bus]
  exact h.bus

/-- A failed attempt: an outcome that counts. -/
theorem failing_attempt {s : State} {c : Instr} (hc : c = .bitError ∨ (∃ ack, c = .attemptConclusion ack true) ∨
    (c = .attemptConclusion false false ∧ ∃ a : Fin 32, (look s.roster a).state = .present)) :
    ∃ a, attemptOf c = some a ∧ ∀ n, failuresAfter n a (!s.anyPresent) = n + 1 := by
  rcases hc with rfl | ⟨ack, rfl⟩ | ⟨rfl, hp⟩
  · exact ⟨.failedBit, rfl, fun _ => rfl⟩
  · exact ⟨.failedNak, by cases ack <;> rfl, fun _ => rfl⟩
  · exact ⟨.failedUnheard, rfl, fun n => by simp [failuresAfter, (anyPresent_iff s).2 hp]⟩

theorem countFailures_of_32 (s : State) : s.countFailures 32 = s.enterWithdrawn := if_pos (Nat.le_refl 32)

/-- The 32nd failed attempt withdraws the station as it is when the producer has been told. -/
theorem exec_failing {s : State} {st : BitVec 4} {e : TxEntry} {rest : List TxEntry} {c : Instr} {a : Attempt}
    (hact : s.bus.activity = .attempting st) (ht : s.tx = e :: rest) (hf : s.bus.failures = 31)
    (hc : attemptOf c = some a) (hn : ∀ n, failuresAfter n a (!s.anyPresent) = n + 1) (hr : s.restartsAt e a = false) :
    exec c s = .next (if a ≠ .failedBit ∧ e.selfDelivers then ((s.attemptOver c).headConcluded e rest a).selfDeliver e
      else (s.attemptOver c).headConcluded e rest a).enterWithdrawn := by
  rw [exec_attempt hact ht hc, hr, if_neg Bool.false_ne_true]
  unfold State.concluded
  dsimp only
  rw [hn, hf, countFailures_of_32]

/-- What the obligation says of the station in WITHDRAWN follows from the state that withdraws. -/
theorem Steady.withdraws {s u : State} (h : Steady s u) :
    let t := u.enterWithdrawn
    t.bus.station = .withdrawn ∧ t.bus.failures = 0 ∧ t.bus.fresh = false ∧ t.tx = [] ∧
      t.bus.activity = .idle ∧ t.bus.holdOff = some (s.time + 256000) ∧ t.faults.withdrawn = true ∧ t.flt = true ∧
      t.bus.standing = s.bus.standing ∧ t.bus.sequence = s.bus.sequence ∧ t.beacon.owesPresence = false ∧
      t.roster = s.roster ∧ (∀ o, (t.out o).forcedSafe = s.bus.safeOnWithdraw) ∧
      (s.bus.safeOnWithdraw = true → ∀ g, (t.gen g).phase = .idle) := by
  obtain ⟨htime, hroster, st, ph, sp, hub⟩ := h
  obtain ⟨hbus, htx, hfaults, howes, hroster', hlines⟩ := enterWithdrawn_withdrawn u
  have hsafe : u.bus.safeOnWithdraw = s.bus.safeOnWithdraw := by rw [hub]
  dsimp only
  rw [hbus, hub, htime]
  refine ⟨rfl, rfl, rfl, htx, rfl, rfl, hfaults, ?_, rfl, rfl, howes, hroster'.trans hroster, fun o => ?_, fun hs => ?_⟩
  · simp [State.flt, FaultSet.nonEmpty, hfaults]
  · rw [hlines, hsafe]
  · exact enterWithdrawn_idle (hsafe.trans hs)

/-! ## The obligation -/

/-- With retries left, a bit error returns the head, and the station withdraws with it in the list. -/
theorem exec_bitError_withdraws {s : State} {st : BitVec 4} {e : TxEntry} {rest : List TxEntry}
    (hact : s.bus.activity = .attempting st) (ht : s.tx = e :: rest) (hf : s.bus.failures = 31) (htx : TxSafe s)
    (hk : e.kind ≠ .presence) (hlimit : e.retries < s.bus.retryLimit.toNat) : exec .bitError s =
      .next ((s.attemptOver .bitError).givenBack { e with retries := e.retries + 1 } rest).enterWithdrawn := by
  have hne := producer_ne_of_txSafe htx ht
  have hnone : s.resultOf e .failedBit = none := by simp [State.resultOf, hk, hlimit]
  have hrestart : s.restartsAt e .failedBit = false := by simp [State.restartsAt, hnone]
  have hhead : (s.attemptOver .bitError).headConcluded e rest .failedBit =
      (s.attemptOver .bitError).givenBack { e with retries := e.retries + 1 } rest := by
    unfold State.headConcluded
    rw [attemptOver_resultOf (a := .failedBit) rfl, hnone]
    exact headReturned_eq_givenBack _ _ _ hne
  rw [exec_failing hact ht hf rfl (fun _ => rfl) hrestart, if_neg fun h => h.1 rfl, hhead]

theorem givenBack_fields (s : State) (e : TxEntry) (rest : List TxEntry) :
    (s.givenBack e rest).outs = s.outs ∧ (s.givenBack e rest).time = s.time := by
  unfold State.givenBack
  dsimp only
  split
  · exact ⟨rfl, rfl⟩
  · split
    · split <;> exact ⟨rfl, rfl⟩
    · exact ⟨rfl, rfl⟩

theorem toWithdrawn_of_givenBack (s : State) (e : TxEntry) (rest : List TxEntry) :
    let v := ((s.attemptOver .bitError).givenBack e rest).flush
    ((s.attemptOver .bitError).givenBack e rest).toWithdrawn = { v with
      bus := { v.bus with station := .withdrawn, failures := 0, fresh := false, holdOff := some (s.time + 256000) }
      faults := { v.faults with withdrawn := true }
      outs := s.outs.map (fun l => { l with forcedSafe := s.bus.safeOnWithdraw }) } := by
  obtain ⟨houts, htime⟩ := givenBack_fields (s.attemptOver .bitError) e rest
  have hbus := givenBack_bus (s.attemptOver .bitError) e rest
  dsimp only
  rw [State.toWithdrawn, houts, htime, hbus]
  rfl

theorem overAt_eq (s : State) (i : Fin 16) : s.overAt s.tx i =
    if s.tx.any (fun e => decide (e.kind = .edge ∧ e.producer = .source i)) then
      (s.source i).pendingCount.toNat + (s.source i).nextCount.toNat - 15 else 0 := by
  have hany : (fun e : TxEntry => decide (e.kind = .edge ∧ e.producer = .source i)) = TxEntry.isEdgeOf i := by
    funext e
    simp [TxEntry.isEdgeOf]
  rw [hany]
  rfl

/-- Settles O40: the station withdraws in the state that the conclusion leaves, and each producer is told of the flush. -/
theorem thirtyTwoFailuresWithdraw : Obligations.ThirtyTwoFailuresWithdraw := by
  refine ⟨fun s st e rest hact ht hf hreply => ⟨fun c hc => ?_, fun htx hk hlimit => ?_⟩, fun s hn => ?_⟩
  · obtain ⟨a, ha, hcount⟩ := failing_attempt hc
    have hrestart : s.restartsAt e a = false := by
      unfold State.restartsAt
      by_cases hp : e.producer = .responder
      · cases hq : s.reply with
        | none => simp
        | some q => simp [hreply hp q hq]
      · simp [hp]
    have hsteady := (attemptOver_steady s c).headConcluded e rest a
    have hexec := exec_failing hact ht hf ha hcount hrestart
    refine ⟨_, hexec, ?_⟩
    refine Steady.withdraws ?_
    split
    · exact hsteady.selfDeliver e
    · exact hsteady
  · have hexec := exec_bitError_withdraws hact ht hf htx hk hlimit
    have hsafe : ((s.attemptOver .bitError).givenBack { e with retries := e.retries + 1 } rest).bus.safeOnWithdraw =
        s.bus.safeOnWithdraw := by rw [givenBack_bus]; rfl
    rw [enterWithdrawn_eq, hsafe, toWithdrawn_of_givenBack] at hexec
    exact hexec
  · obtain ⟨htallies, hfaults⟩ := flush_loses hn
    have hedge : ∀ i, (s.tx.any fun e => decide (e.kind = .edge ∧ e.producer = .source i)) = s.tx.any (TxEntry.isEdgeOf i) :=
      fun i => by
        congr 1
        funext e
        simp [TxEntry.isEdgeOf]
    have hlost : ∑ i, s.overAt s.tx i = ((indices 16).map (fun i =>
        if s.tx.any (fun e => decide (e.kind = .edge ∧ e.producer = .source i)) then
          (s.source i).pendingCount.toNat + (s.source i).nextCount.toNat - 15 else 0)).sum := by
      rw [Fin.sum_univ_def]
      exact congrArg List.sum (List.map_congr_left fun i _ => overAt_eq s i)
    rw [hlost] at htallies hfaults
    dsimp only
    refine ⟨?_, fun i hi => ?_, fun i hi => ?_, fun j e he hp hu => ?_, fun j hj => ?_, flush_reply s, ?_⟩
    · rw [← htallies, ← hfaults]
      exact flush_frame s
    · rw [flush_source, ← hedge, hi]
      rfl
    · rw [flush_source, ← hedge, hi]
      rfl
    · rw [flush_slot, if_pos (List.any_eq_true.2 ⟨e, he, by simp [TxEntry.isWantedOf, hp, hu]⟩)]
      rfl
    · refine (flush_slot s j).trans (if_neg fun h => ?_)
      obtain ⟨e, he, hw⟩ := List.any_eq_true.1 h
      obtain ⟨hp, hu⟩ : e.producer = .record j ∧ e.unwanted = false := by simpa [TxEntry.isWantedOf] using hw
      rw [hj e he hp] at hu
      exact absurd hu (by decide)
    · rw [flush_owesJoin]
      by_cases h : s.tx.any TxEntry.isJoin = true
      · rw [if_pos h]
        obtain ⟨e, he, hj⟩ := List.any_eq_true.1 h
        obtain ⟨hp, hk⟩ : e.producer = .beacon ∧ e.kind = .join := by simpa [TxEntry.isJoin] using hj
        exact iff_of_true rfl (.inr ⟨e, he, hk, hp⟩)
      · rw [if_neg h]
        refine (or_iff_left ?_).symm
        rintro ⟨e, he, hk, hp⟩
        exact h (List.any_eq_true.2 ⟨e, he, by simp [TxEntry.isJoin, hk, hp]⟩)

end Sys2Proof.Machine
end

section
/-! PROOF. A receiver reads the frame that its sender sends (R116–R119, R121). -/

namespace Sys2Proof.Machine

/-! ## Fields and their cells (section 6.4) -/

theorem natBits_length (w n : Nat) : (natBits w n).length = w := by
  induction w with
  | zero => rfl
  | succ w ih => rw [natBits, List.length_cons, ih]

theorem bitsNat_fold (w n acc : Nat) :
    (natBits w n).foldl (fun a b => 2 * a + b.toNat) acc = acc * 2 ^ w + n % 2 ^ w := by
  induction w generalizing acc with
  | zero => simp [natBits, Nat.mod_one]
  | succ w ih =>
    have hbit : n % 2 ^ (w + 1) = n % 2 ^ w + 2 ^ w * (n.testBit w).toNat := by
      rw [Nat.pow_succ, Nat.mod_mul, Nat.toNat_testBit]
    rw [natBits, List.foldl_cons, ih, hbit, Nat.pow_succ]
    ring

/-- The cells of a number spell its low bits. -/
theorem bitsNat_natBits (w n : Nat) : bitsNat (natBits w n) = n % 2 ^ w := by
  rw [bitsNat, bitsNat_fold, Nat.zero_mul, Nat.zero_add]

@[simp] theorem fieldBits_length {w : Nat} (x : BitVec w) : (fieldBits x).length = w := natBits_length w _

@[simp] theorem bitsNat_fieldBits {w : Nat} (x : BitVec w) : bitsNat (fieldBits x) = x.toNat := by
  rw [fieldBits, bitsNat_natBits, Nat.mod_eq_of_lt x.isLt]

theorem flatMap_fieldBits_length (l : List Byte) : (l.flatMap fieldBits).length = 8 * l.length := by
  induction l with
  | nil => rfl
  | cons b l ih =>
    rw [List.flatMap_cons, List.length_append, ih, fieldBits_length, List.length_cons]
    ring

/-- Bytes are read out of their cells. -/
theorem cellBytes_flatMap (l : List Byte) (rest : List Bool) : cellBytes l.length (l.flatMap fieldBits ++ rest) = l := by
  induction l with
  | nil => rfl
  | cons b l ih =>
    have htake : (fieldBits b ++ (l.flatMap fieldBits ++ rest)).take 8 = fieldBits b := List.take_left' (fieldBits_length b)
    have hdrop : (fieldBits b ++ (l.flatMap fieldBits ++ rest)).drop 8 = l.flatMap fieldBits ++ rest :=
      List.drop_left' (fieldBits_length b)
    rw [List.length_cons, List.flatMap_cons, List.append_assoc, cellBytes, htake, hdrop, ih, bitsNat_fieldBits,
      BitVec.ofNat_toNat, BitVec.setWidth_eq]

/-! ## Payloads (R118, R119) -/

theorem payloadBytes_length (m : Msg) : (payloadBytes m).length = kindLength m.kind := by
  cases m <;> rfl

theorem kindLength_lt (k : Kind) : kindLength k < 8 := by
  cases k <;> decide

theorem join_split (fresh : Bool) (sig : Signature) :
    (BitVec.ofBool fresh ++ sig.extractLsb' 8 7).getLsbD 7 = fresh ∧
      (BitVec.ofBool fresh ++ sig.extractLsb' 8 7).extractLsb' 0 7 ++ sig.extractLsb' 0 8 = sig := by
  refine ⟨by rw [BitVec.getLsbD_append]; simp, ?_⟩
  apply BitVec.eq_of_getLsbD_eq
  intro i hi
  simp only [BitVec.getLsbD_append, BitVec.getLsbD_extractLsb']
  by_cases h : i < 8
  · simp [h]
  · have h7 : i - 8 < 7 := by omega
    simp [h, h7, show 8 + (i - 8) = i by omega]

theorem byte_fields : ∀ (n : BitVec 4) (b : Bool), (n ++ BitVec.ofBool b ++ 0#3).extractLsb' 4 4 = n ∧
    (n ++ BitVec.ofBool b ++ 0#3).getLsbD 3 = b := by decide

theorem nibble_field : ∀ n : BitVec 4, (n ++ 0#4).extractLsb' 4 4 = n := by decide

theorem addr_field : ∀ a : BitVec 5, (a ++ 0#3).extractLsb' 3 5 = a := by decide

theorem presence_fields : ∀ (f : Bool) (c : BitVec 3) (h : Bool),
    (BitVec.ofBool f ++ c ++ BitVec.ofBool h ++ 0#3).getLsbD 7 = f ∧
      (BitVec.ofBool f ++ c ++ BitVec.ofBool h ++ 0#3).extractLsb' 4 3 = c ∧
      (BitVec.ofBool f ++ c ++ BitVec.ofBool h ++ 0#3).getLsbD 3 = h := by decide

/-- The payload fields are read out of the payload. -/
theorem payloadMsg_payloadBytes (m : Msg) : payloadMsg (kindCode m.kind) (payloadBytes m) = some m := by
  cases m with
  | edge n d =>
    obtain ⟨hn, hd⟩ := byte_fields n (dirBit d)
    have hdir : bitDir (dirBit d) = d := by cases d <;> rfl
    change some (Msg.edge _ _) = _
    rw [hn, hd, hdir]
  | hold k re =>
    obtain ⟨hk, hre⟩ := byte_fields k re
    change some (Msg.hold _ _) = _
    rw [hk, hre]
  | clear k =>
    change some (Msg.clear _) = _
    rw [nibble_field]
  | release a k =>
    change some (Msg.release _ _) = _
    rw [addr_field, nibble_field]
  | presence f c h =>
    obtain ⟨hf, hc, hh⟩ := presence_fields f c h
    change some (Msg.presence _ _ _) = _
    rw [hf, hc, hh]
  | query a item index =>
    change some (Msg.query _ _ _) = _
    rw [addr_field]
  | report a item index d0 d1 d2 =>
    change some (Msg.report _ _ _ _ _ _) = _
    rw [addr_field]
  | join fresh sig =>
    obtain ⟨hf, hs⟩ := join_split fresh sig
    change some (Msg.join _ _) = _
    rw [hf, hs]

/-! ## The fields in the cells (R116) -/

theorem drop_past {l m : List Bool} {k : Nat} (h : l.length ≤ k) : (l ++ m).drop k = m.drop (k - l.length) := by
  rw [List.drop_append, List.drop_of_length_le h, List.nil_append]

theorem bodyBits_length (f : Frame) : f.bodyBits.length = 30 + 8 * kindLength f.msg.kind := by
  simp only [Frame.bodyBits, List.length_append, List.length_singleton, fieldBits_length, natBits_length,
    flatMap_fieldBits_length, payloadBytes_length]

theorem cells_length (f : Frame) : f.cells.length = 46 + 8 * kindLength f.msg.kind := by
  rw [Frame.cells, List.length_append, bodyBits_length, fieldBits_length]
  ring

/-- The cells of a frame, field by field. -/
theorem cells_eq (f : Frame) : f.cells =
    [!kindUrgent f.msg.kind] ++ (fieldBits f.standing ++ (fieldBits f.sender ++ (fieldBits (kindCode f.msg.kind) ++
      (fieldBits f.seq ++ (fieldBits f.channel ++ (natBits 3 (kindLength f.msg.kind) ++
        ((payloadBytes f.msg).flatMap fieldBits ++ fieldBits (crcBits crcStart f.bodyBits)))))))) := by
  rw [Frame.cells]
  conv => lhs; arg 1; rw [Frame.bodyBits]
  simp only [List.append_assoc]

/-- What the cells carry from each field on. -/
theorem drop_cells (f : Frame) :
    let tail := (payloadBytes f.msg).flatMap fieldBits ++ fieldBits (crcBits crcStart f.bodyBits)
    let len := natBits 3 (kindLength f.msg.kind) ++ tail
    f.cells.drop 30 = tail ∧ f.cells.drop 27 = len ∧ f.cells.drop 19 = fieldBits f.channel ++ len ∧
      f.cells.drop 13 = fieldBits f.seq ++ (fieldBits f.channel ++ len) ∧
      f.cells.drop 10 = fieldBits (kindCode f.msg.kind) ++ (fieldBits f.seq ++ (fieldBits f.channel ++ len)) ∧
      (f.cells.drop 5).take 5 = fieldBits f.sender ∧ (f.cells.drop 1).take 4 = fieldBits f.standing ∧
      (f.cells.drop 0).take 1 = [!kindUrgent f.msg.kind] := by
  dsimp only
  rw [cells_eq]
  simp only [drop_past, List.length_singleton, fieldBits_length, natBits_length, Nat.reduceLeDiff, Nat.reduceSub,
    List.drop_zero, List.take_left', and_self]

/-- The fields of a frame are read out of its cells. -/
theorem readCells_cells (f : Frame) : readCells f.cells = some
    { normalClass := !kindUrgent f.msg.kind, standing := f.standing, sender := f.sender, kind := kindCode f.msg.kind
      seq := f.seq, channel := f.channel, payload := payloadBytes f.msg, crcOk := true } := by
  obtain ⟨h30, h27, h19, h13, h10, h5, h1, h0⟩ := drop_cells f
  have hlength : cellsLength f.cells = kindLength f.msg.kind := by
    rw [cellsLength, h27, List.take_left' (natBits_length _ _), bitsNat_natBits]
    exact Nat.mod_eq_of_lt (kindLength_lt _)
  have hbody : f.cells.take (30 + 8 * kindLength f.msg.kind) = f.bodyBits := List.take_left' (bodyBits_length f)
  have hcrc : (f.cells.drop (30 + 8 * kindLength f.msg.kind)).take 16 = fieldBits (crcBits crcStart f.bodyBits) := by
    rw [Frame.cells, List.drop_left' (bodyBits_length f)]
    exact List.take_of_length_le (Nat.le_of_eq (fieldBits_length _))
  have hpayload := cellBytes_flatMap (payloadBytes f.msg) (fieldBits (crcBits crcStart f.bodyBits))
  rw [payloadBytes_length] at hpayload
  have hclass : decide (bitsNat [!kindUrgent f.msg.kind] = 1) = !kindUrgent f.msg.kind := by
    cases kindUrgent f.msg.kind <;> rfl
  unfold readCells
  dsimp only
  rw [hlength, if_neg (by rw [cells_length]; omega), h30, hpayload, h19, h13, h10, h5, h1]
  simp only [h0, hbody, hcrc, hclass, List.take_left', fieldBits_length, bitsNat_fieldBits, BitVec.ofNat_toNat, BitVec.setWidth_eq, decide_true]

/-- Settles O52: the fields read back are those of the frame, and of the checks only the format can fail. -/
theorem receiverReadsTheFrameSent : Obligations.ReceiverReadsTheFrameSent := by
  intro f
  have hclass : (!kindUrgent f.msg.kind) ≠ kindUrgent f.msg.kind := by cases kindUrgent f.msg.kind <;> decide
  rw [verdict, readCells_cells]
  simp only [RawFrame.verdict, payloadMsg_payloadBytes, Bool.not_true, Bool.false_eq_true, if_false, beq_iff_eq, hclass]

end Sys2Proof.Machine
end

section
/-! PROOF. The data of reports, byte by byte (R168, R169, section 9.2.1). -/

namespace Sys2Proof.Machine

/-! ## Fields side by side -/

theorem toNat_beside {w v : Nat} (x : BitVec w) (y : BitVec v) : (x ++ y).toNat = x.toNat * 2 ^ v + y.toNat := by
  rw [BitVec.toNat_append, ← Nat.shiftLeft_add_eq_or_of_lt y.isLt, Nat.shiftLeft_eq]

section
variable {w v u t r : Nat} (x : BitVec w) (y : BitVec v) (z : BitVec u) (a : BitVec t) (b : BitVec r)

theorem toNat_beside3 : (x ++ y ++ z).toNat = (x.toNat * 2 ^ v + y.toNat) * 2 ^ u + z.toNat := by
  rw [toNat_beside, toNat_beside]

theorem toNat_beside4 : (x ++ y ++ z ++ a).toNat = ((x.toNat * 2 ^ v + y.toNat) * 2 ^ u + z.toNat) * 2 ^ t + a.toNat := by
  rw [toNat_beside, toNat_beside3]

theorem toNat_beside5 : (x ++ y ++ z ++ a ++ b).toNat =
    (((x.toNat * 2 ^ v + y.toNat) * 2 ^ u + z.toNat) * 2 ^ t + a.toNat) * 2 ^ r + b.toNat := by
  rw [toNat_beside, toNat_beside4]
end

@[simp] theorem bit_toNat (b : Bool) : (bit b).toNat = b.toNat := BitVec.toNat_ofBool b

/-- A bit of a number, by arithmetic. -/
theorem testBit_of {n k : Nat} {b : Bool} (h : n / 2 ^ k % 2 = b.toNat) : n.testBit k = b := by
  rw [Nat.testBit_eq_decide_div_mod_eq, h]
  cases b <;> rfl

/-- Eight flags make a byte, the first in bit 7. -/
theorem flags_testBit : ∀ a b c d e f g h : Bool,
    let n := (bit a ++ bit b ++ bit c ++ bit d ++ bit e ++ bit f ++ bit g ++ bit h).toNat
    n.testBit 7 = a ∧ n.testBit 6 = b ∧ n.testBit 5 = c ∧ n.testBit 4 = d ∧ n.testBit 3 = e ∧ n.testBit 2 = f ∧
      n.testBit 1 = g ∧ n.testBit 0 = h := by decide

theorem nibble_testBit : ∀ a b c d : Bool,
    let n := (bit a ++ bit b ++ bit c ++ bit d).toNat
    n.testBit 3 = a ∧ n.testBit 2 = b ∧ n.testBit 1 = c ∧ n.testBit 0 = d := by decide

/-! ## SUMMARY -/

theorem station_code (st : StationState) : stationCodes[st.code.toNat]? = some st := by
  cases st <;> rfl

theorem anyHold_iff (s : State) : s.anyHold = true ↔ SomeHold s := by
  simp only [State.anyHold, List.any_eq_true, mem_indices, true_and, Bool.and_eq_true]

theorem summaryData_d0 (s : State) : s.summaryData.d0.toNat =
    ((s.bus.station.code.toNat * 2 ^ 3 + s.loader.reason.toNat) * 2 ^ 1 + (bit s.anyHold).toNat) * 2 ^ 1 +
      (bit s.flt).toNat :=
  toNat_beside4 _ _ _ _

theorem summaryData_shows (s : State) :
    ShowsSummary s s.summaryData.d0.toNat s.summaryData.d1.toNat s.summaryData.d2.toNat := by
  have hd0 := summaryData_d0 s
  rw [bit_toNat, bit_toNat] at hd0
  have hreason := s.loader.reason.isLt
  have hhold := Bool.toNat_lt s.anyHold
  have hflt := Bool.toNat_lt s.flt
  obtain ⟨h7, h6, h5, h4, h3, h2, h1, h0⟩ := flags_testBit s.faults.withdrawn s.faults.orphaned s.faults.addressConflict
    s.faults.undelivered s.faults.acceptOverflow s.faults.lostEdges s.faults.collision s.faults.imageMismatch
  refine ⟨?_, by omega, ?_, testBit_of (by omega), h7, h6, h5, h4, h3, h2, h1, h0, ?_⟩
  · rw [← station_code s.bus.station]
    congr 1
    omega
  · rw [testBit_of (b := s.anyHold) (by omega)]
    exact anyHold_iff s
  · have h : s.summaryData.d2 = if s.loader.reason = 4 then s.loader.failTable ++ s.loader.failIndex else 0 := rfl
    rw [h]
    split
    · exact (toNat_beside _ _).trans (by omega)
    · rfl

/-! ## SOURCE -/

theorem mode_code {m : Mode} (h : m ∈ modeCodes) : modeCodes[m.code.toNat]? = some m := by
  cases m with
  | reserved c => simp [modeCodes] at h
  | _ => rfl

theorem origin_code (o : Origin) : o.OfCode o.code.toNat ∧ (o = .none → o.code.toNat = 31) := by
  cases o with
  | input n => exact ⟨.inl ⟨n, by simp [Origin.code]; omega, rfl⟩, by simp⟩
  | generator g => exact ⟨.inr (.inl ⟨g, by simp [Origin.code]; omega, rfl⟩), by simp⟩
  | counter c => exact ⟨.inr (.inr (.inl ⟨c, by simp [Origin.code]; omega, rfl⟩)), by simp⟩
  | none => exact ⟨.inr (.inr (.inr ⟨by decide, rfl⟩)), fun _ => rfl⟩

theorem edge_code (st : EdgeState) : edgeCodes[st.code.toNat]? = some st := by
  cases st <;> rfl

theorem hold_code (st : HoldState) : holdCodes[st.code.toNat]? = some st := by
  cases st <;> rfl

theorem dirBit_iff (d : Direction) : dirBit d = true ↔ d = .rise := by
  cases d <;> decide

theorem stateData_d0 (e : SourceEntry) : e.stateData.d0.toNat = e.mode.code.toNat * 32 + e.origin.code.toNat := by
  have h : e.stateData.d0 = e.mode.code ++ e.origin.code := by
    unfold SourceEntry.stateData
    dsimp only
    split <;> rfl
  rw [h]
  exact toNat_beside _ _

theorem stateData_of_edge {e : SourceEntry} (h : e.mode = .edgeRise ∨ e.mode = .edgeFall ∨ e.mode = .edgeBoth) :
    e.stateData.d1 = e.edgeState.code ++ bit (dirBit e.lastDir) ++ 0#1 ++ e.pendingCount ∧
      e.stateData.d2 = e.nextCount ++ 0#4 := by
  unfold SourceEntry.stateData
  rcases h with h | h | h <;> rw [h] <;> exact ⟨rfl, rfl⟩

theorem stateData_of_hold {e : SourceEntry} (h : e.mode = .holdHigh ∨ e.mode = .holdLow) :
    e.stateData.d1 = e.holdState.code ++ bit e.condition ++ e.inst ∧
      e.stateData.d2 = e.reannounces ++ bit e.announced ++ bit e.releaseTimer.isSome ++ bit e.repeatTimer.isSome ++ 0#3 := by
  unfold SourceEntry.stateData
  rcases h with h | h <;> rw [h] <;> exact ⟨rfl, rfl⟩

theorem stateData_shows (e : SourceEntry) : ShowsSource e e.stateData.d0.toNat e.stateData.d1.toNat e.stateData.d2.toNat := by
  have hd0 := stateData_d0 e
  have horigin := e.origin.code.isLt
  have hmod : e.stateData.d0.toNat % 32 = e.origin.code.toNat := by omega
  have hdiv : e.stateData.d0.toNat / 32 = e.mode.code.toNat := by omega
  obtain ⟨hcode, hnone⟩ := origin_code e.origin
  refine ⟨by rw [hmod]; exact hcode, by rw [hmod]; exact hnone, fun h => by rw [hdiv]; exact mode_code h, fun h => ?_, fun h => ?_⟩
  · obtain ⟨h1, h2⟩ := stateData_of_edge h
    have hd1 : e.stateData.d1.toNat = ((e.edgeState.code.toNat * 2 ^ 1 + (bit (dirBit e.lastDir)).toNat) * 2 ^ 1 + (0#1).toNat) *
        2 ^ 4 + e.pendingCount.toNat := by
      rw [h1]
      exact toNat_beside4 _ _ _ _
    have hd2 : e.stateData.d2.toNat = e.nextCount.toNat * 2 ^ 4 + (0#4).toNat := by
      rw [h2]
      exact toNat_beside _ _
    rw [bit_toNat] at hd1
    simp only [BitVec.toNat_ofNat, Nat.zero_mod] at hd1 hd2
    have hdir := Bool.toNat_lt (dirBit e.lastDir)
    have hpend := e.pendingCount.isLt
    refine ⟨?_, ?_, testBit_of (by simp only [Bool.toNat_false]; omega), by omega, by omega⟩
    · rw [← edge_code e.edgeState]
      congr 1
      omega
    · rw [testBit_of (b := dirBit e.lastDir) (by omega)]
      exact dirBit_iff _
  · obtain ⟨h1, h2⟩ := stateData_of_hold h
    have hd1 : e.stateData.d1.toNat = (e.holdState.code.toNat * 2 ^ 1 + (bit e.condition).toNat) * 2 ^ 4 + e.inst.toNat := by
      rw [h1]
      exact toNat_beside3 _ _ _
    have hd2 : e.stateData.d2.toNat = (((e.reannounces.toNat * 2 ^ 1 + (bit e.announced).toNat) * 2 ^ 1 +
        (bit e.releaseTimer.isSome).toNat) * 2 ^ 1 + (bit e.repeatTimer.isSome).toNat) * 2 ^ 3 + (0#3).toNat := by
      rw [h2]
      exact toNat_beside5 _ _ _ _ _
    rw [bit_toNat] at hd1
    simp only [bit_toNat, BitVec.toNat_ofNat, Nat.zero_mod] at hd2
    have hcond := Bool.toNat_lt e.condition
    have hinst := e.inst.isLt
    have hann := Bool.toNat_lt e.announced
    have hrel := Bool.toNat_lt e.releaseTimer.isSome
    have hrep := Bool.toNat_lt e.repeatTimer.isSome
    refine ⟨?_, testBit_of (by omega), by omega, by omega, testBit_of (by omega), testBit_of (by omega),
      testBit_of (by omega), by omega⟩
    rw [← hold_code e.holdState]
    congr 1
    omega

theorem releaseField_toNat (o : Option Addr) : (releaseField o).toNat =
    match o with
    | some a => 32 + a.toNat
    | none => 0 := by
  cases o with
  | none => rfl
  | some a => exact (toNat_beside (1#1) a).trans (by simp)

/-- Three bytes of a word of 24 bits are that word. -/
theorem bytes_of_word (w : BitVec 24) :
    65536 * (w.extractLsb' 16 8).toNat + 256 * (w.extractLsb' 8 8).toNat + (w.extractLsb' 0 8).toNat = w.toNat := by
  have h := w.isLt
  simp only [BitVec.extractLsb'_toNat, Nat.shiftRight_eq_div_pow]
  omega

theorem releasesData_shows (e : SourceEntry) :
    ShowsReleases e e.releasesData.d0.toNat e.releasesData.d1.toNat e.releasesData.d2.toNat := by
  have hword := bytes_of_word (releaseField e.received[0]? ++ releaseField e.received[1]? ++ releaseField e.received[2]? ++
    releaseField e.received[3]?)
  have hfields : (releaseField e.received[0]? ++ releaseField e.received[1]? ++ releaseField e.received[2]? ++
    releaseField e.received[3]? : BitVec 24).toNat = _ := toNat_beside4 _ _ _ _
  have h0 := (releaseField e.received[0]?).isLt
  have h1 := (releaseField e.received[1]?).isLt
  have h2 := (releaseField e.received[2]?).isLt
  have h3 := (releaseField e.received[3]?).isLt
  have hdata : 65536 * e.releasesData.d0.toNat + 256 * e.releasesData.d1.toNat + e.releasesData.d2.toNat = _ := hword.trans hfields
  intro n
  refine Eq.trans ?_ (releaseField_toNat e.received[n.val]?)
  rw [hdata]
  match n with
  | 0 => simp only [Fin.isValue, Fin.val_zero]; omega
  | 1 => simp only [Fin.isValue, Fin.val_one]; omega
  | 2 => simp only [Fin.isValue, Fin.val_two]; omega
  | 3 => simp only [Fin.isValue, show (3 : Fin 4).val = 3 from rfl]; omega

/-! ## ACCEPT -/

theorem record_code (st : RecordState) : recordCodes[st.code.toNat]? = some st := by
  cases st <;> rfl

/-- The place of a record in the age order is below 8, and the record stands there. -/
theorem agePosition_spec {s : State} (hs : AcceptanceSafe s) {j : Fin 8} {r : AcceptRecord} (h : s.slot j = some r) :
    s.agePosition j < 8 ∧ s.ageOrder[s.agePosition j]? = some j := by
  obtain ⟨_, _, hnodup, hmem⟩ := hs
  have hj : j ∈ s.ageOrder := (hmem j).2 (by rw [h]; simp)
  have hlt : s.agePosition j < s.ageOrder.length := List.idxOf_lt_length_of_mem hj
  have hlen : s.ageOrder.length ≤ 8 := by simpa using hnodup.length_le_card
  exact ⟨by omega, List.getElem?_idxOf hj⟩

theorem recordData_shows {s : State} (hs : AcceptanceSafe s) (j : Fin 8) :
    ShowsRecord s j (s.recordData j).d0.toNat (s.recordData j).d1.toNat (s.recordData j).d2.toNat := by
  unfold ShowsRecord State.recordData
  cases h : s.slot j with
  | none => exact ⟨rfl, rfl, rfl⟩
  | some r =>
    obtain ⟨hlt, hage⟩ := agePosition_spec hs h
    have hd0 : (1#1 ++ r.state.code ++ r.inst : Byte).toNat = ((1#1).toNat * 2 ^ 3 + r.state.code.toNat) * 2 ^ 4 + r.inst.toNat :=
      toNat_beside3 _ _ _
    have hd2 : (r.sender ++ BitVec.ofNat 3 (s.agePosition j) : Byte).toNat = r.sender.toNat * 2 ^ 3 + s.agePosition j := by
      refine (toNat_beside _ _).trans ?_
      rw [BitVec.toNat_ofNat, Nat.mod_eq_of_lt hlt]
    have hcode := r.state.code.isLt
    have hinst := r.inst.isLt
    simp only [BitVec.toNat_ofNat] at hd0
    dsimp only
    refine ⟨testBit_of (by simp only [Bool.toNat_true]; omega), ?_, by omega, rfl, by omega, ?_⟩
    · rw [← record_code r.state]
      congr 1
      omega
    · rw [← hage]
      congr 1
      omega

end Sys2Proof.Machine
end

section
/-! PROOF. The data of reports, continued, and the page of each item and index (R168, R169, section 9.2.1). -/

namespace Sys2Proof.Machine

/-! ## Flags -/

theorem testBit_low {w v k : Nat} (x : BitVec w) (y : BitVec v) (h : k < v) :
    (x ++ y).toNat.testBit k = y.toNat.testBit k := by
  rw [BitVec.testBit_toNat, BitVec.testBit_toNat, BitVec.getLsbD_append, if_pos h]

theorem testBit_high {w v : Nat} (x : BitVec w) (y : BitVec v) (k : Nat) :
    (x ++ y).toNat.testBit (v + k) = x.toNat.testBit k := by
  rw [BitVec.testBit_toNat, BitVec.testBit_toNat, BitVec.getLsbD_append, if_neg (by omega), Nat.add_sub_cancel_left]

theorem nibble_flag (l : List Bool) (n : Fin 4) : (nibble l).toNat.testBit (3 - n.val) = l.getD n.val false := by
  obtain ⟨h3, h2, h1, h0⟩ := nibble_testBit (l.getD 0 false) (l.getD 1 false) (l.getD 2 false) (l.getD 3 false)
  match n with
  | 0 => exact h3
  | 1 => exact h2
  | 2 => exact h1
  | 3 => exact h0

theorem map_flag {α : Type} (f : α → Bool) (l : List α) (n : Nat) : (l.map f).getD n false = l[n]?.any f := by
  rw [List.getD_eq_getElem?_getD, List.getElem?_map]
  cases l[n]? <;> rfl

theorem octet_flag (f : Fin 8 → Bool) (o : Fin 8) : (octet f).toNat.testBit o.val = f o := by
  obtain ⟨h7, h6, h5, h4, h3, h2, h1, h0⟩ := flags_testBit (f 7) (f 6) (f 5) (f 4) (f 3) (f 2) (f 1) (f 0)
  match o with
  | 0 => exact h0
  | 1 => exact h1
  | 2 => exact h2
  | 3 => exact h3
  | 4 => exact h4
  | 5 => exact h5
  | 6 => exact h6
  | 7 => exact h7

/-! ## ACCEPT, duty page -/

theorem dutyData_shows {s : State} (hs : AcceptanceSafe s) (j : Fin 8) :
    ShowsDuties s j (s.dutyData j).d0.toNat (s.dutyData j).d1.toNat (s.dutyData j).d2.toNat := by
  unfold ShowsDuties State.dutyData
  cases h : s.slot j with
  | none => exact ⟨rfl, rfl, rfl⟩
  | some r =>
    obtain ⟨_, hone, hfour⟩ := hs.1 j r h
    have hd0 : (BitVec.ofNat 2 (r.duties.length - 1) ++ (if r.releaseListed then 1#2 else 0#2) ++
        nibble (r.duties.map (fun d => d.done)) : Byte).toNat = ((BitVec.ofNat 2 (r.duties.length - 1)).toNat * 2 ^ 2 +
        (if r.releaseListed then 1#2 else 0#2).toNat) * 2 ^ 4 + (nibble (r.duties.map (fun d => d.done))).toNat :=
      toNat_beside3 _ _ _
    have hlisted : (if r.releaseListed then 1#2 else 0#2).toNat = r.releaseListed.toNat := by
      cases r.releaseListed <;> rfl
    have hbit := Bool.toNat_lt r.releaseListed
    have hnibble := (nibble (r.duties.map (fun d => d.done))).isLt
    rw [hlisted, BitVec.toNat_ofNat] at hd0
    dsimp only
    refine ⟨by omega, by omega, rfl, fun n => ⟨?_, ?_, ?_⟩⟩
    · rw [← map_flag, ← nibble_flag]
      exact testBit_low _ _ (by omega)
    · rw [← map_flag, ← nibble_flag, show 7 - n.val = 4 + (3 - n.val) by omega]
      exact testBit_high _ _ _
    · rw [← map_flag, ← nibble_flag]
      exact testBit_low _ _ (by omega)

/-! ## GENERATOR -/

theorem phase_code (p : GenPhase) : phaseCodes[p.code.toNat]? = some p := by
  cases p <;> rfl

theorem generatorData_shows (e : Generator) : ShowsGenerator e e.data.d0.toNat e.data.d1.toNat e.data.d2.toNat := by
  have hd0 : e.data.d0.toNat = ((e.phase.code.toNat * 2 ^ 1 + (bit e.pendingTrigger).toNat) * 2 ^ 1 +
      (bit e.shadowed).toNat) * 2 ^ 4 + (BitVec.ofNat 4 e.activeNumber.val).toNat := toNat_beside4 _ _ _ _
  have hd1 : e.data.d1.toNat = (((bit e.pendingProfile.isSome).toNat * 2 ^ 1 +
      (bit (decide (e.remaining = .unending))).toNat) * 2 ^ 2 + (0#2).toNat) * 2 ^ 4 +
      (BitVec.ofNat 4 ((e.pendingProfile.map Fin.val).getD 0)).toNat := by
    have hpend : (e.pendingProfile.map Fin.val).getD 0 = match e.pendingProfile with
        | some p => p.val
        | none => 0 := by
      cases e.pendingProfile <;> rfl
    rw [hpend]
    exact toNat_beside4 _ _ _ _
  simp only [bit_toNat, BitVec.toNat_ofNat] at hd0 hd1
  have hnumber := e.activeNumber.isLt
  have htrig := Bool.toNat_lt e.pendingTrigger
  have hshadow := Bool.toNat_lt e.shadowed
  have hsome := Bool.toNat_lt e.pendingProfile.isSome
  have hunend := Bool.toNat_lt (decide (e.remaining = .unending))
  have hpend : (e.pendingProfile.map Fin.val).getD 0 < 16 := by
    cases e.pendingProfile with
    | none => simp
    | some p => exact p.isLt
  refine ⟨?_, testBit_of (by omega), testBit_of (by omega), by omega, testBit_of (by omega), ?_, by omega, by omega, ?_⟩
  · rw [← phase_code e.phase]
    congr 1
    omega
  · rw [testBit_of (b := decide (e.remaining = .unending)) (by omega), decide_eq_true_eq]
  · have hd2 : e.data.d2 = match e.remaining with
        | .pulses n => n
        | .unending => 0 := rfl
    rw [hd2]
    cases e.remaining <;> rfl

/-! ## COUNTER -/

/-- Two bytes of a word of 16 bits are that word. -/
theorem bytes_of_word16 (w : BitVec 16) : 256 * (w.extractLsb' 8 8).toNat + (w.extractLsb' 0 8).toNat = w.toNat := by
  have h := w.isLt
  simp only [BitVec.extractLsb'_toNat, Nat.shiftRight_eq_div_pow]
  omega

theorem counterData_shows (c : Counter) :
    256 * c.valueData.d0.toNat + c.valueData.d1.toNat = c.value.toNat ∧ c.valueData.d2.toNat.testBit 7 = c.stick ∧
      (c.valueData.d2.toNat.testBit 6 = true ↔ c.value = c.terminal) ∧ c.valueData.d2.toNat % 64 = 0 := by
  have hd2 : c.valueData.d2.toNat = ((bit c.stick).toNat * 2 ^ 1 + (bit c.atTerminal).toNat) * 2 ^ 6 + (0#6).toNat :=
    toNat_beside3 _ _ _
  simp only [bit_toNat, BitVec.toNat_ofNat] at hd2
  have hstick := Bool.toNat_lt c.stick
  have hterm := Bool.toNat_lt c.atTerminal
  refine ⟨bytes_of_word16 c.value, testBit_of (by omega), ?_, by omega⟩
  rw [testBit_of (b := c.atTerminal) (by omega)]
  exact decide_eq_true_iff

theorem terminalData_shows (c : Counter) : 256 * c.terminalData.d0.toNat + c.terminalData.d1.toNat = c.terminal.toNat ∧
    c.terminalData.d2.toNat = 128 * c.stick.toNat := by
  have hd2 : c.terminalData.d2.toNat = (bit c.stick).toNat * 2 ^ 7 + (0#7).toNat := toNat_beside _ _
  simp only [bit_toNat, BitVec.toNat_ofNat] at hd2
  exact ⟨bytes_of_word16 c.terminal, by omega⟩

/-! ## ROSTER -/

theorem presence_code (p : Presence) : presenceCodes[p.code.toNat]? = some p := by
  cases p <;> rfl

theorem entryData_shows (e : RosterEntry) :
    ShowsRoster e e.entryData.d0.toNat e.entryData.d1.toNat e.entryData.d2.toNat := by
  have hd0 : e.entryData.d0.toNat = (((e.state.code.toNat * 2 ^ 2 + e.silence.toNat) * 2 ^ 1 +
      (bit e.lastSeq.isSome).toNat) * 2 ^ 1 + (bit e.signature.isSome).toNat) * 2 ^ 2 + (0#2).toNat :=
    toNat_beside5 _ _ _ _ _
  have hd1 : e.entryData.d1.toNat = (0#2).toNat * 2 ^ 6 + (e.lastSeq.getD 0).toNat := toNat_beside _ _
  simp only [bit_toNat, BitVec.toNat_ofNat] at hd0 hd1
  have hsil := e.silence.isLt
  have hseq := Bool.toNat_lt e.lastSeq.isSome
  have hsig := Bool.toNat_lt e.signature.isSome
  refine ⟨?_, by omega, testBit_of (by omega), testBit_of (by omega), by omega, ?_, rfl⟩
  · rw [← presence_code e.state]
    congr 1
    omega
  · have hmap : (e.lastSeq.map BitVec.toNat).getD 0 = (e.lastSeq.getD 0).toNat := by cases e.lastSeq <;> rfl
    omega

theorem signatureData_shows (e : RosterEntry) :
    256 * e.signatureData.d0.toNat + e.signatureData.d1.toNat = (e.signature.map (fun x => 32768 + x.toNat)).getD 0 ∧
      e.signatureData.d2.toNat = 0 := by
  have hd0 : e.signatureData.d0.toNat =
      (bit e.signature.isSome).toNat * 2 ^ 7 + ((e.signature.getD 0).extractLsb' 8 7).toNat := toNat_beside _ _
  have hd1 : e.signatureData.d1 = (e.signature.getD 0).extractLsb' 0 8 := rfl
  have hlt := (e.signature.getD 0).isLt
  have hsum : (e.signature.map (fun x => 32768 + x.toNat)).getD 0 =
      32768 * e.signature.isSome.toNat + (e.signature.getD 0).toNat := by cases e.signature <;> rfl
  simp only [bit_toNat, BitVec.extractLsb'_toNat, Nat.shiftRight_eq_div_pow] at hd0
  refine ⟨?_, rfl⟩
  rw [hd1, BitVec.extractLsb'_toNat, Nat.shiftRight_eq_div_pow, hsum]
  omega

/-! ## OUTPUTS and GROUPS -/

theorem ownerField_toNat (s : State) (o : Fin 8) : (s.ownerField o).toNat =
    match (s.out o).owner with
    | some g => 8 + g.val
    | none => 0 := by
  unfold State.ownerField
  cases (s.out o).owner with
  | none => rfl
  | some g =>
    have hg : (BitVec.ofNat 3 g.val).toNat = g.val := by rw [BitVec.toNat_ofNat, Nat.mod_eq_of_lt g.isLt]
    refine (toNat_beside (1#1) (BitVec.ofNat 3 g.val)).trans ?_
    rw [hg]
    rfl

theorem levelsData_shows (s : State) (o : Fin 8) : s.levelsData.d0.toNat.testBit o.val = s.shown o ∧
    s.levelsData.d1.toNat.testBit o.val = (s.out o).static ∧ s.levelsData.d2.toNat.testBit o.val = (s.out o).safe := by
  unfold State.levelsData
  exact ⟨octet_flag s.shown o, octet_flag (fun o => (s.out o).static) o, octet_flag (fun o => (s.out o).safe) o⟩

/-- The owners of four lines in succession. -/
theorem owners_shows (s : State) (l m n p : Fin 8) (hm : m.val = l.val + 1) (hn : n.val = l.val + 2) (hp : p.val = l.val + 3) :
    ShowsOwners s l.val (s.ownerField l ++ s.ownerField m : Byte).toNat (s.ownerField n ++ s.ownerField p : Byte).toNat
      (bit (s.out l).forcedSafe ++ 0#7 : Byte).toNat := by
  have hd0 : (s.ownerField l ++ s.ownerField m : Byte).toNat = (s.ownerField l).toNat * 2 ^ 4 + (s.ownerField m).toNat :=
    toNat_beside _ _
  have hd1 : (s.ownerField n ++ s.ownerField p : Byte).toNat = (s.ownerField n).toNat * 2 ^ 4 + (s.ownerField p).toNat :=
    toNat_beside _ _
  have hd2 : (bit (s.out l).forcedSafe ++ 0#7 : Byte).toNat = (bit (s.out l).forcedSafe).toNat * 2 ^ 7 + (0#7).toNat :=
    toNat_beside _ _
  have hl := (s.ownerField l).isLt
  have hm' := (s.ownerField m).isLt
  have hn' := (s.ownerField n).isLt
  have hp' := (s.ownerField p).isLt
  refine ⟨fun k x hx => ?_, fun x hx => ?_⟩
  · refine Eq.trans ?_ (ownerField_toNat s x)
    match k with
    | 0 =>
      obtain rfl : x = l := Fin.ext hx
      simp only [Fin.isValue, Fin.val_zero]
      omega
    | 1 =>
      obtain rfl : x = m := Fin.ext (hx.trans hm.symm)
      simp only [Fin.isValue, Fin.val_one]
      omega
    | 2 =>
      obtain rfl : x = n := Fin.ext (hx.trans hn.symm)
      simp only [Fin.isValue, Fin.val_two]
      omega
    | 3 =>
      obtain rfl : x = p := Fin.ext (hx.trans hp.symm)
      simp only [Fin.isValue, show (3 : Fin 4).val = 3 from rfl]
      omega
  · obtain rfl : x = l := Fin.ext hx
    simp only [bit_toNat, BitVec.toNat_ofNat] at hd2
    omega

theorem groupsData_shows (s : State) : (∀ m : Fin 4, s.groupsData.d0.toNat.testBit m.val = look s.groups m) ∧
    s.groupsData.d0.toNat < 16 ∧ s.groupsData.d1.toNat = 0 ∧ s.groupsData.d2.toNat = 0 := by
  have hd0 : s.groupsData.d0.toNat = (0#4).toNat * 2 ^ 4 +
      (nibble [look s.groups 3, look s.groups 2, look s.groups 1, look s.groups 0]).toNat := toNat_beside _ _
  have hlt := (nibble [look s.groups 3, look s.groups 2, look s.groups 1, look s.groups 0]).isLt
  simp only [BitVec.toNat_ofNat] at hd0
  have heq : s.groupsData.d0.toNat = (nibble [look s.groups 3, look s.groups 2, look s.groups 1, look s.groups 0]).toNat := by
    omega
  obtain ⟨h3, h2, h1, h0⟩ := nibble_testBit (look s.groups 3) (look s.groups 2) (look s.groups 1) (look s.groups 0)
  refine ⟨fun m => ?_, by omega, rfl, rfl⟩
  rw [heq]
  match m with
  | 0 => exact h0
  | 1 => exact h1
  | 2 => exact h2
  | 3 => exact h3

/-! ## The page of an item and index (R168) -/

theorem entryIdx_of_low {n : Nat} (h : 0 < n) {index : Byte} {i : Fin n} (hi : index.toNat = i.val) : entryIdx n h index = i :=
  Fin.ext (by simp [entryIdx, hi, Nat.mod_eq_of_lt i.isLt])

theorem entryIdx_of_high {n : Nat} (h : 0 < n) {index : Byte} {i : Fin n} (hi : index.toNat = n + i.val) :
    entryIdx n h index = i :=
  Fin.ext (by simp [entryIdx, hi, Nat.mod_eq_of_lt i.isLt])

section
variable {s : State} {item index : Byte}

theorem itemData_source (h : item.toNat = 1) : s.itemData item index =
    if index.toNat < 16 then (s.source (entryIdx 16 (by decide) index)).stateData
    else (s.source (entryIdx 16 (by decide) index)).releasesData := by
  simp only [State.itemData, h]

theorem itemData_accept (h : item.toNat = 2) : s.itemData item index =
    if index.toNat < 8 then s.recordData (entryIdx 8 (by decide) index) else s.dutyData (entryIdx 8 (by decide) index) := by
  simp only [State.itemData, h]

theorem itemData_generator (h : item.toNat = 3) :
    s.itemData item index = (s.gen (entryIdx 8 (by decide) index)).data := by
  simp only [State.itemData, h]

theorem itemData_counter (h : item.toNat = 4) : s.itemData item index =
    if index.toNat < 4 then (s.counter (entryIdx 4 (by decide) index)).valueData
    else (s.counter (entryIdx 4 (by decide) index)).terminalData := by
  simp only [State.itemData, h]

theorem itemData_roster (h : item.toNat = 5) : s.itemData item index =
    if index.toNat < 32 then (look s.roster (entryIdx 32 (by decide) index)).entryData
    else (look s.roster (entryIdx 32 (by decide) index)).signatureData := by
  simp only [State.itemData, h]

theorem itemData_tally (h : item.toNat = 6) :
    s.itemData item index = { d0 := look s.tallies (entryIdx 10 (by decide) index), d1 := 0, d2 := 0 } := by
  simp only [State.itemData, h]

theorem itemData_outputs (h : item.toNat = 7) : s.itemData item index =
    if index.toNat = 0 then s.levelsData else if index.toNat = 1 then s.ownersLow else s.ownersHigh := by
  simp only [State.itemData, h]

theorem itemData_groups (h : item.toNat = 8) : s.itemData item index = s.groupsData := by
  simp only [State.itemData, h]

theorem itemData_summary (h : item.toNat = 0 ∨ item.toNat = 9 ∨ item.toNat = 10) :
    s.itemData item index = s.summaryData := by
  rcases h with h | h | h <;> simp only [State.itemData, h]

/-- The data of an item and index shows what section 9.2.1 says. -/
theorem itemData_shows (hs : AcceptanceSafe s) : Shows s item.toNat index.toNat (s.itemData item index).d0.toNat
    (s.itemData item index).d1.toNat (s.itemData item index).d2.toNat := by
  refine ⟨fun h => ?_, fun i h hi => ?_, fun i h hi => ?_, fun j h hj => ?_, fun j h hj => ?_, fun g h hg => ?_,
    fun c h hc => ?_, fun c h hc => ?_, fun a h ha => ?_, fun a h ha => ?_, fun n h hn => ?_, fun h hi o => ?_,
    fun h hi => ?_, fun h hi => ?_, fun h => ?_⟩
  · rw [itemData_summary h]
    exact summaryData_shows s
  · rw [itemData_source h, if_pos (by omega), entryIdx_of_low _ hi]
    exact stateData_shows _
  · rw [itemData_source h, if_neg (by omega), entryIdx_of_high _ hi]
    exact releasesData_shows _
  · rw [itemData_accept h, if_pos (by omega), entryIdx_of_low _ hj]
    exact recordData_shows hs j
  · rw [itemData_accept h, if_neg (by omega), entryIdx_of_high _ hj]
    exact dutyData_shows hs j
  · rw [itemData_generator h, entryIdx_of_low _ hg]
    exact generatorData_shows _
  · rw [itemData_counter h, if_pos (by omega), entryIdx_of_low _ hc]
    exact counterData_shows _
  · rw [itemData_counter h, if_neg (by omega), entryIdx_of_high _ hc]
    exact terminalData_shows _
  · rw [itemData_roster h, if_pos (by omega), entryIdx_of_low _ ha]
    exact entryData_shows _
  · rw [itemData_roster h, if_neg (by omega), entryIdx_of_high _ ha]
    exact signatureData_shows _
  · rw [itemData_tally h, entryIdx_of_low _ hn]
    exact ⟨rfl, rfl, rfl⟩
  · rw [itemData_outputs h, if_pos hi]
    exact levelsData_shows s o
  · rw [itemData_outputs h, if_neg (by omega), if_pos hi]
    exact owners_shows s 0 1 2 3 rfl rfl rfl
  · rw [itemData_outputs h, if_neg (by omega), if_neg (by omega)]
    exact owners_shows s 4 5 6 7 rfl rfl rfl
  · rw [itemData_groups h]
    exact groupsData_shows s
end

end Sys2Proof.Machine
end

section
/-! PROOF. A contention won (R14, R20, R46, R119, R133, R134, R158, R159, R166, R177). -/

namespace Sys2Proof.Machine

/-! ## Admission while the station sends (R130) -/

theorem settle_of_active {s : State} (h : s.bus.activity ≠ .idle) : s.settle = s.admitOwed := by
  rcases settle_cases s with heq | ⟨_, _, _, _, _, hidle, _⟩
  · exact heq
  · exact absurd hidle h

theorem admitOne_head {s : State} {e : TxEntry} (h : HeadOnBus s.tx) :
    (s.admitOne e).tx.head? = s.tx.head? := by
  by_cases ha : s.Admissible e
  · rw [admitOne_of_admissible ha, tellAdmitted_tx]
    exact head_admitEntry h
  · rw [admitOne_of_not ha]

/-- An ON-BUS head stays the head. -/
theorem admitOwed_head {s : State} (h : HeadOnBus s.tx) : s.admitOwed.tx.head? = s.tx.head? := by
  have hfold : ∀ (l : List TxEntry) (t : State), HeadOnBus t.tx → (l.foldl State.admitOne t).tx.head? = t.tx.head? := by
    intro l
    induction l with
    | nil => exact fun _ _ => rfl
    | cons e l ih =>
      intro t ht
      have hone := admitOne_head (e := e) ht
      rw [List.foldl_cons, ih (t.admitOne e) (by rw [HeadOnBus, hone]; exact ht), hone]
  exact hfold s.demands s h

theorem OwedAt.presence {s : State} {e : TxEntry} {n : Nat} (h : OwedAt s e n) (hk : e.kind = .presence) : OwesPresence s e := by
  rcases h with ⟨j, _, r, _, _, h⟩ | ⟨j, _, _, ⟨_, h⟩ | ⟨_, h⟩⟩ | ⟨_, _, h⟩ | ⟨j, _, _, h⟩ | ⟨_, _, h⟩ | ⟨_, h⟩
  · cases h.2.1.symm.trans hk
  · cases h.2.1.symm.trans hk
  · cases h.2.1.symm.trans hk
  · cases h.2.1.symm.trans hk
  · cases h.2.1.symm.trans hk
  · cases h.2.1.symm.trans hk
  · exact h

/-- Where no PRESENCE is owed none comes into the list. -/
theorem admitOwed_presence {s : State} (h : s.beacon.owesPresence = false) {f : TxEntry} (hf : f ∈ s.admitOwed.tx)
    (hk : f.kind = .presence) : f ∈ s.tx := by
  rcases List.mem_append.1 ((admission s).perm.mem_iff.1 hf) with hf | hf
  · obtain ⟨n, hn⟩ := mem_admitted hf
    have howes := (hn.presence hk).1
    rw [h] at howes
    exact absurd howes (by decide)
  · exact hf

/-! ## What the producer is told (R14, R20, R46, R166) -/

/-- A producer that is told of a win changes its own table only. -/
def TellSide (s t : State) : Prop := ∃ src r rp, t = { s with sources := src, slots := r, reply := rp }

theorem tellWon_tellSide (s : State) (e : TxEntry) : TellSide s (s.tellWon e) := by
  unfold State.tellWon
  split
  · split <;> exact ⟨_, _, _, rfl⟩
  · split
    · exact ⟨_, _, _, rfl⟩
    · split
      · unfold State.holdWon
        dsimp only
        split <;> exact ⟨_, _, _, rfl⟩
      · exact ⟨_, _, _, rfl⟩
    all_goals exact ⟨_, _, _, rfl⟩
  · exact ⟨_, _, _, rfl⟩
  · exact ⟨_, _, _, rfl⟩

section
variable {s : State} {e : TxEntry}

theorem tellWon_of_edge {i : Fin 16} (hp : e.producer = .source i) (hk : e.kind = .edge) :
    s.tellWon e = s.edgeWon i := by
  unfold State.tellWon
  rw [hp, hk]

theorem tellWon_of_hold {i : Fin 16} {k : InstNo} {re : Bool} (hp : e.producer = .source i) (hk : e.kind = .hold)
    (hm : e.msg = some (.hold k re)) : s.tellWon e = s.holdWon i k := by
  unfold State.tellWon
  rw [hp, hk, hm]
  rfl

theorem tellWon_of_release {j : Fin 8} (hp : e.producer = .record j) (hu : e.unwanted = false) :
    s.tellWon e = s.releaseWon j := by
  unfold State.tellWon
  rw [hp, hu]
  rfl

theorem tellWon_of_responder (hp : e.producer = .responder) :
    s.tellWon e = s.setReply (s.reply.map (fun r => { r with state := .sending })) := by
  unfold State.tellWon
  rw [hp]
end

/-! ## The head takes its number and payload (R133) -/

/-- The head at its first win. -/
def TxEntry.sent (e : TxEntry) (q : Seq) (m : Option Msg) : TxEntry := { e with seq := some q, beenOnBus := true, msg := m }

/-- The station as the producer of its head is told of the first win. -/
def State.numbered (s : State) (e : TxEntry) (rest : List TxEntry) : State :=
  (s.setTx (e.sent s.bus.sequence (s.capture e) :: rest)).setBus { s.bus with sequence := s.bus.sequence + 1 }

theorem headWon_of_first {s : State} {e : TxEntry} (rest : List TxEntry) (h : e.beenOnBus = false) :
    s.headWon e rest = (s.numbered e rest).tellWon e := if_neg (by rw [h]; decide)

theorem headWon_of_later {s : State} {e : TxEntry} (rest : List TxEntry) (h : e.beenOnBus = true) :
    s.headWon e rest = s := if_pos h

/-- A win changes this. -/
def WonSide (s t : State) : Prop := ∃ src r rp l b sq sd act,
  t = { s with sources := src, slots := r, reply := rp, tx := l, beacon := b
               bus := { s.bus with sequence := sq, standing := sd, activity := act } }

theorem headWon_wonSide (s : State) (e : TxEntry) (rest : List TxEntry) : WonSide s (s.headWon e rest) := by
  cases hb : e.beenOnBus with
  | true =>
    rw [headWon_of_later rest hb]
    exact ⟨_, _, _, _, _, _, _, _, rfl⟩
  | false =>
    rw [headWon_of_first rest hb]
    obtain ⟨_, _, _, h⟩ := tellWon_tellSide (s.numbered e rest) e
    rw [h]
    exact ⟨_, _, _, _, _, _, _, _, rfl⟩

/-- The list after the win of an entry of kind `k`. -/
def wonList (k : Kind) (l : List TxEntry) : List TxEntry :=
  if k = .presence then l else l.filter (fun e => !(e.kind = .presence && !e.onBus))

/-- The beacon after the win of an entry of kind `k` (R158, R159). -/
def Beacon.wonBy (b : Beacon) (k : Kind) : Beacon :=
  { b with won := true, owesPresence := b.owesPresence && decide (k = .presence) }

theorem won_eq {s : State} {e : TxEntry} {rest : List TxEntry} (st : BitVec 4) (ht : s.tx = e :: rest) : s.won st =
    { s.headWon e rest with
      tx := wonList e.kind (s.headWon e rest).tx
      beacon := (s.headWon e rest).beacon.wonBy e.kind
      bus := { (s.headWon e rest).bus with standing := 15, activity := .attempting st } } := by
  unfold State.won
  rw [ht]
  dsimp only
  unfold State.beaconWon wonList Beacon.wonBy
  by_cases hk : e.kind = .presence
  · simp only [hk, decide_true, Bool.and_true]
    rfl
  · simp only [hk, decide_false, Bool.and_false]
    rfl

theorem wonList_head {k : Kind} {e : TxEntry} {l : List TxEntry} (h : e.onBus = true) :
    (wonList k (e :: l)).head? = some e := by
  unfold wonList
  split
  · rfl
  · simp [h]

theorem mem_wonList {k : Kind} {l : List TxEntry} (hk : k ≠ .presence) {f : TxEntry} (hf : f ∈ wonList k l)
    (hp : f.kind = .presence) : f.onBus = true := by
  unfold wonList at hf
  rw [if_neg hk] at hf
  simpa [hp] using (List.mem_filter.1 hf).2

/-! ## The frame on the bus (R132, R133, R145, R177) -/

theorem frameSent_of_head {s : State} {st : BitVec 4} {e : TxEntry} (hact : s.bus.activity = .attempting st)
    (hh : s.tx.head? = some e) : s.frameSent = s.entryFrame st e := by
  obtain ⟨l, hl⟩ := List.head?_eq_some_iff.1 hh
  unfold State.frameSent
  rw [hact, hl]

theorem cellsSent_of_attempting {s : State} {st : BitVec 4} (hact : s.bus.activity = .attempting st) {f : Frame}
    (hf : s.frameSent = some f) : s.cellsSent = f.cells ++ [true, true] := by
  unfold State.cellsSent
  rw [hact, hf]
  rfl

theorem cellsSent_of_contending {s : State} {st : BitVec 4} {e : TxEntry} {rest : List TxEntry}
    (hact : s.bus.activity = .contending st) (ht : s.tx = e :: rest) : s.cellsSent = s.contentionField st e := by
  unfold State.cellsSent
  rw [hact, ht]

/-- A frame begins with the contention field of its entry. -/
theorem cells_take_ten (f : Frame) :
    f.cells.take 10 = (!kindUrgent f.msg.kind) :: (fieldBits f.standing ++ fieldBits f.sender) := by
  have hassoc : f.cells = ([!kindUrgent f.msg.kind] ++ (fieldBits f.standing ++ fieldBits f.sender)) ++ f.cells.drop 10 := by
    obtain ⟨_, _, _, _, h10, _⟩ := drop_cells f
    rw [h10, cells_eq]
    simp only [List.append_assoc]
  rw [hassoc]
  exact List.take_left' (by simp)

theorem entryFrame_some {s : State} {st : BitVec 4} {e : TxEntry} {f : Frame} (h : s.entryFrame st e = some f) :
    f.standing = st ∧ f.sender = s.address := by
  unfold State.entryFrame at h
  split at h
  · obtain rfl := Option.some_inj.1 h
    exact ⟨rfl, rfl⟩
  · exact absurd h (by simp)

end Sys2Proof.Machine
end

section
/-! PROOF. A contention won, in the words of the obligation. -/

namespace Sys2Proof.Machine

theorem settle_slot (s : State) (j : Fin 8) : s.settle.slot j = s.slot j ∨
    ∃ q : AcceptRecord, s.slot j = some q ∧ q.state = .releaseOwed := by
  obtain ⟨_, _, r, _, _, _, _, _, heq, _, hslot, _⟩ := admissionLeavesTheRest s
  have hlook : s.settle.slot j = look r j := by
    rw [heq]
    rfl
  rw [hlook]
  exact (hslot j).imp_right fun ⟨q, hq, hst, _⟩ => ⟨q, hq, hst⟩

theorem settle_reply (s : State) : s.settle.reply = s.reply ∨ ∃ q : Reply, s.reply = some q ∧ q.state = .owed := by
  obtain ⟨_, _, _, rp, _, _, _, _, heq, _, _, hreply, _⟩ := admissionLeavesTheRest s
  have hrp : s.settle.reply = rp := by rw [heq]
  rw [hrp]
  exact hreply.imp_right fun ⟨q, hq, hst, _⟩ => ⟨q, hq, hst⟩

/-! ## The station after the win and the admission that follows it -/

section
variable {s : State} {st : BitVec 4} {e : TxEntry} {rest : List TxEntry}

theorem exec_contentionWon (hact : s.bus.activity = .contending st) :
    exec .contentionWon s = .next (s.won st).settle := by
  have hexec : exec .contentionWon s = execContentionWon s := rfl
  rw [hexec, execContentionWon, hact]

theorem won_settle_bus (ht : s.tx = e :: rest) : (s.won st).settle.bus =
    { (s.headWon e rest).bus with standing := 15, activity := .attempting st } := by
  have hact : (s.won st).bus.activity ≠ .idle := by rw [won_activity st ht]; simp
  rw [settle_of_active hact, (admission (s.won st)).bus, won_eq st ht]

theorem won_head (ht : s.tx = e :: rest) {x : TxEntry} {l : List TxEntry} (hx : (s.headWon e rest).tx = x :: l)
    (hon : x.onBus = true) : (s.won st).settle.tx.head? = some x := by
  have hact : (s.won st).bus.activity ≠ .idle := by rw [won_activity st ht]; simp
  have hlist : (s.won st).tx.head? = some x := by
    rw [won_eq st ht]
    dsimp only
    rw [hx]
    exact wonList_head hon
  rw [settle_of_active hact, admitOwed_head (by rw [HeadOnBus, hlist, Option.map_some, hon]), hlist]

theorem won_settle_source (ht : s.tx = e :: rest) (i : Fin 16) : (s.won st).settle.source i =
    { (s.headWon e rest).source i with edgeState := ((s.won st).settle.source i).edgeState } := by
  have hsrc : (s.won st).source i = (s.headWon e rest).source i := by rw [won_eq st ht]; rfl
  rw [← hsrc]
  exact settle_source_eq _ i

theorem won_settle_source_of_sending (ht : s.tx = e :: rest) {i : Fin 16}
    (h : ((s.headWon e rest).source i).edgeState = .sending) : (s.won st).settle.source i = (s.headWon e rest).source i := by
  have hsrc : (s.won st).source i = (s.headWon e rest).source i := by rw [won_eq st ht]; rfl
  rw [← hsrc]
  exact settle_edgeState_eq (by rw [hsrc, h]; simp)

theorem won_settle_slot (ht : s.tx = e :: rest) {j : Fin 8} {r : AcceptRecord} (h : (s.headWon e rest).slot j = some r)
    (hr : r.state ≠ .releaseOwed) : (s.won st).settle.slot j = some r := by
  have hslot : (s.won st).slot j = some r := by rw [won_eq st ht]; exact h
  rcases settle_slot (s.won st) j with heq | ⟨q, hq, howed⟩
  · rw [heq, hslot]
  · rw [hslot] at hq
    obtain rfl := Option.some_inj.1 hq
    exact absurd howed hr

theorem won_settle_reply (ht : s.tx = e :: rest) {r : Reply} (h : (s.headWon e rest).reply = some r)
    (hr : r.state ≠ .owed) : (s.won st).settle.reply = some r := by
  have hreply : (s.won st).reply = some r := by rw [won_eq st ht]; exact h
  rcases settle_reply (s.won st) with heq | ⟨q, hq, howed⟩
  · rw [heq, hreply]
  · rw [hreply] at hq
    obtain rfl := Option.some_inj.1 hq
    exact absurd howed hr

/-- A win leaves these. -/
theorem won_settle_leaves (s : State) (st : BitVec 4) (ht : s.tx = e :: rest) :
    let t := (s.won st).settle
    t.bus.station = s.bus.station ∧ t.bus.failures = s.bus.failures ∧ t.tallies = s.tallies ∧ t.faults = s.faults ∧
      t.roster = s.roster ∧ t.gens = s.gens ∧ t.outs = s.outs ∧ t.address = s.address := by
  have hsettle : ∀ w : State, w.settle.bus.station = w.bus.station ∧ w.settle.bus.failures = w.bus.failures ∧
      w.settle.tallies = w.tallies ∧ w.settle.faults = w.faults ∧ w.settle.roster = w.roster ∧ w.settle.gens = w.gens ∧
      w.settle.outs = w.outs ∧ w.settle.address = w.address := fun w => by
    obtain ⟨_, _, _, _, _, _, _, _, h⟩ := settle_side w
    rw [h]
    exact ⟨rfl, rfl, rfl, rfl, rfl, rfl, rfl, rfl⟩
  obtain ⟨h1, h2, h3, h4, h5, h6, h7, h8⟩ := hsettle (s.won st)
  dsimp only
  rw [h1, h2, h3, h4, h5, h6, h7, h8, won_eq st ht]
  obtain ⟨_, _, _, _, _, _, _, _, h⟩ := headWon_wonSide s e rest
  rw [h]
  exact ⟨rfl, rfl, rfl, rfl, rfl, rfl, rfl, rfl⟩

theorem won_settle_won (ht : s.tx = e :: rest) : (s.won st).settle.beacon.won = true := by
  rw [(settle_admission (s.won st)).2.2.2, (admission (s.won st)).beacon, won_eq st ht]
  rfl

/-- The win of another entry drops the PRESENCE (R159). -/
theorem won_settle_presence (ht : s.tx = e :: rest) (hk : e.kind ≠ .presence) :
    (s.won st).settle.beacon.owesPresence = false ∧
      ∀ f ∈ (s.won st).settle.tx, f.kind = .presence → f.onBus = true := by
  have hact : (s.won st).bus.activity ≠ .idle := by rw [won_activity st ht]; simp
  have howes : (s.won st).beacon.owesPresence = false := by
    rw [won_eq st ht]
    simp [Beacon.wonBy, hk]
  rw [settle_of_active hact]
  refine ⟨?_, fun f hf hp => ?_⟩
  · rw [(admission (s.won st)).beacon]
    simp [Beacon.told, howes]
  · have hmem := admitOwed_presence howes hf hp
    rw [won_eq st ht] at hmem
    exact mem_wonList hk hmem hp

/-- The cells sent before and after the win are those of the frame. -/
theorem won_cells (hact : s.bus.activity = .contending st) (ht : s.tx = e :: rest) {x : TxEntry}
    (hx : (s.won st).settle.tx.head? = some x) {f : Frame} (hf : (s.won st).settle.frameSent = some f)
    (hk : f.msg.kind = e.kind) : (s.won st).settle.cellsSent = f.cells ++ [true, true] ∧ s.cellsSent = f.cells.take 10 := by
  have hatt : (s.won st).settle.bus.activity = .attempting st := by rw [won_settle_bus ht]
  have hframe := hf
  rw [frameSent_of_head hatt hx] at hframe
  obtain ⟨hst, hadr⟩ := entryFrame_some hframe
  obtain ⟨_, _, _, _, _, _, _, haddress⟩ := won_settle_leaves s st ht
  refine ⟨cellsSent_of_attempting hatt hf, ?_⟩
  rw [cellsSent_of_contending hact ht, cells_take_ten, hk, hst, hadr, haddress, State.contentionField, e.urgent_eq]

theorem won_frame (ht : s.tx = e :: rest) {x : TxEntry} (hx : (s.won st).settle.tx.head? = some x) {q : Seq} {m : Msg}
    (hq : x.seq = some q) (hm : x.msg = some m) : (s.won st).settle.frameSent =
      some { standing := st, sender := s.address, seq := q, channel := x.channel, msg := m } := by
  have hatt : (s.won st).settle.bus.activity = .attempting st := by rw [won_settle_bus ht]
  obtain ⟨_, _, _, _, _, _, _, haddress⟩ := won_settle_leaves s st ht
  rw [frameSent_of_head hatt hx, State.entryFrame, hq, hm, haddress]
end

/-! ## The payload captured (R14, R119, R133, R166, R168, R169) -/

theorem capture_edge {s : State} {e : TxEntry} {i : Fin 16} (hk : e.kind = .edge) (hp : e.producer = .source i) :
    s.capture e = some (.edge (s.source i).pendingCount (s.source i).lastDir) := by
  unfold State.capture
  rw [hk, hp]
  rfl

theorem capture_fixed {s : State} {e : TxEntry} (h : e.kind = .hold ∨ e.kind = .clear ∨ e.kind = .release ∨ e.kind = .join) :
    s.capture e = e.msg := by
  unfold State.capture
  rcases h with h | h | h | h <;> rw [h]

theorem capture_report {s : State} {e : TxEntry} {r : Reply} (hk : e.kind = .report) (hr : s.reply = some r) :
    s.capture e = some (s.reportMsg r) := by
  unfold State.capture
  rw [hk, hr]
  rfl

theorem capture_presence {s : State} {e : TxEntry} (hk : e.kind = .presence) : s.capture e = some s.presenceMsg := by
  unfold State.capture
  rw [hk]

theorem reportMsg_refused {s : State} {r : Reply} {reason : BitVec 3} (h : r.answer = .refused reason) :
    s.reportMsg r = .report r.querier 0xFF r.index r.item (reason.setWidth 8) 0 := by
  have hpad : ∀ x : BitVec 3, (0#5 ++ x : Byte) = x.setWidth 8 := by decide
  unfold State.reportMsg
  rw [h]
  dsimp only [refusalData]
  rw [hpad]

theorem reportMsg_data {s : State} {r : Reply} (h : r.answer = .data) : s.reportMsg r =
    .report r.querier r.item r.index (s.itemData r.item r.index).d0 (s.itemData r.item r.index).d1
      (s.itemData r.item r.index).d2 := by
  unfold State.reportMsg
  rw [h]

theorem holdWon_source_of_current {s : State} {i : Fin 16} {k : InstNo} (h : (s.source i).inst = k) :
    (s.holdWon i k).source i = { s.source i with announced := true, predOpen := false } := by
  rw [State.holdWon, if_pos h, State.source_setSource_self]

theorem holdWon_source_of_other {s : State} {i : Fin 16} {k : InstNo} (h : (s.source i).inst ≠ k) :
    (s.holdWon i k).source i = s.source i := by
  rw [State.holdWon, if_neg h]

/-- Settles O36, by whether the head has been on the bus before, and its kind. -/
theorem winTakesTheSequenceNumber : Obligations.WinTakesTheSequenceNumber := by
  intro s st e rest hact ht hon
  obtain ⟨hstation, hfailures, htallies, hfaults, hroster, hgens, houts, _⟩ := won_settle_leaves s st ht
  have hbus := won_settle_bus (st := st) ht
  obtain ⟨x, hx⟩ : ∃ x, (s.won st).settle.tx.head? = some x := by
    obtain ⟨f, hf, hkey, _⟩ := headWon_keys ht
    refine ⟨f, won_head ht hf ?_⟩
    simp only [TxEntry.key, Prod.mk.injEq] at hkey
    rw [hkey.2.2, hon]
  refine ⟨(s.won st).settle, exec_contentionWon hact, by rw [hbus], by rw [hbus], won_settle_won ht, hstation, hfailures,
    htallies, hfaults, hroster, hgens, houts, fun hb => ?_, fun hb => ?_, won_settle_presence ht,
    fun f hf hk => won_cells hact ht hx hf hk⟩
  · have hu := headWon_of_first (s := s) rest hb
    have hhead : (s.won st).settle.tx.head? = some (e.sent s.bus.sequence (s.capture e)) :=
      won_head (l := rest) ht (by rw [hu, tellWon_tx]; rfl) hon
    have hsequence : (s.won st).settle.bus.sequence = s.bus.sequence + 1 := by
      obtain ⟨_, _, _, h⟩ := tellWon_tellSide (s.numbered e rest) e
      rw [hbus, hu, h]
      rfl
    refine ⟨hsequence, s.capture e, hhead, fun i hk hp => ?_, capture_fixed, fun r hk hp hr => ?_, fun hk => ?_,
      fun i k re hk hp hm => ?_, fun j r hk hp hw hr => ?_, fun m hm => won_frame ht hhead rfl hm⟩
    · have hsrc : (s.headWon e rest).source i = { s.source i with edgeState := .sending, nextCount := 0 } := by
        rw [hu, tellWon_of_edge hp hk]
        exact State.source_setSource_self _ _ _
      have hkept := won_settle_source_of_sending (st := st) ht (i := i) (by rw [hsrc])
      rw [hkept, hsrc]
      exact ⟨capture_edge hk hp, rfl, rfl⟩
    · have hreply : (s.headWon e rest).reply = some { r with state := .sending } := by
        rw [hu, tellWon_of_responder hp]
        change s.reply.map _ = _
        rw [hr]
        rfl
      refine ⟨won_settle_reply ht hreply (by simp), fun reason ha => ?_, fun ha _ hsafe => ?_⟩
      · rw [capture_report hk hr, reportMsg_refused ha]
      · exact ⟨_, _, _, by rw [capture_report hk hr, reportMsg_data ha], itemData_shows hsafe⟩
    · exact ⟨_, _, _, capture_presence hk, rfl, station_code _, anyHold_iff s⟩
    · have hwon : s.headWon e rest = (s.numbered e rest).holdWon i k := by rw [hu, tellWon_of_hold hp hk hm]
      refine ⟨fun hinst => ?_, fun hinst => ?_⟩
      · have hsrc : (s.headWon e rest).source i = { s.source i with announced := true, predOpen := false } := by
          rw [hwon]
          exact holdWon_source_of_current (s := s.numbered e rest) hinst.symm
        refine ⟨?_, ?_⟩ <;> rw [won_settle_source ht, hsrc]
      · have hsrc : (s.headWon e rest).source i = s.source i := by
          rw [hwon]
          exact holdWon_source_of_other (s := s.numbered e rest) (Ne.symm hinst)
        rw [won_settle_source ht, hsrc]
    · have hslot : (s.headWon e rest).slot j = some { r with state := .releaseSending, releaseListed := true } := by
        have hsame : (s.numbered e rest).slot j = some r := hr
        rw [hu, tellWon_of_release hp hw, State.releaseWon, State.setRecordState, State.slot_setSlot_self, hsame]
        rfl
      exact won_settle_slot ht hslot (by simp)
  · have hu := headWon_of_later (s := s) rest hb
    have hhead : (s.won st).settle.tx.head? = some e := won_head (l := rest) ht (by rw [hu, ht]) hon
    exact ⟨by rw [hbus, hu], hhead, fun q m hq hm => won_frame ht hhead hq hm⟩

end Sys2Proof.Machine
end

section
/-! PROOF. Each entry of a table at READY is that of its bytes in the image (R183, section 10.4.2). -/

namespace Sys2Proof.Machine

/-! ## Codes and fields of a byte -/

theorem decodeMode_ofCode : ∀ c : BitVec 3, (decodeMode c).OfCode c.toNat := by
  unfold Mode.OfCode
  decide

theorem decodeOrigin_ofCode (c : BitVec 5) : (decodeOrigin c).OfCode c.toNat := by
  unfold decodeOrigin Origin.OfCode
  split
  · next h => exact .inl ⟨⟨c.toNat, h⟩, rfl, rfl⟩
  · split
    · next h1 h => exact .inr (.inl ⟨⟨c.toNat - 16, h⟩, by dsimp only; omega, rfl⟩)
    · split
      · next h1 h2 h => exact .inr (.inr (.inl ⟨⟨c.toNat - 24, h⟩, by dsimp only; omega, rfl⟩))
      · exact .inr (.inr (.inr ⟨by omega, rfl⟩))

theorem decodeKinds_ofCode : ∀ c : BitVec 2, (decodeKinds c).OfCode c.toNat := by
  unfold SubKinds.OfCode
  decide

theorem decodeGroup_ofCode : ∀ c : BitVec 3, (decodeGroup c).OfCode c.toNat := by
  unfold SubGroup.OfCode
  decide

theorem decodeRelease_ofCode : ∀ c : BitVec 2, (decodeRelease c).OfCode c.toNat := by
  unfold ReleasePolicy.OfCode
  decide

theorem decodeKind_ofCode : ∀ c : BitVec 4, actionKinds[c.toNat]? = some (decodeKind c) ∨
    (11 ≤ c.toNat ∧ ∃ x : BitVec 4, x.toNat = c.toNat ∧ decodeKind c = .reserved x) := by decide

section
variable (b : Byte)

theorem top3 : (b.extractLsb' 5 3).toNat = b.toNat / 32 := by
  have h := b.isLt
  rw [toNat_extractLsb'_byte]
  omega

theorem top4 : (b.extractLsb' 4 4).toNat = b.toNat / 16 := by
  have h := b.isLt
  rw [toNat_extractLsb'_byte]
  omega

theorem top5 : b.extractLsb' 3 5 = BitVec.ofNat 5 (b.toNat / 8) := by
  rw [← BitVec.toNat_inj, toNat_extractLsb'_byte, BitVec.toNat_ofNat]
  rfl

theorem low5 : b.extractLsb' 0 5 = BitVec.ofNat 5 b.toNat := by
  rw [← BitVec.toNat_inj, toNat_extractLsb'_byte, BitVec.toNat_ofNat, Nat.pow_zero, Nat.div_one]

theorem low_toNat (n : Nat) : (b.extractLsb' 0 n).toNat = b.toNat % 2 ^ n := by
  rw [toNat_extractLsb'_byte, Nat.pow_zero, Nat.div_one]

theorem middle2 (k : Nat) : (b.extractLsb' k 2).toNat = b.toNat / 2 ^ k % 4 := toNat_extractLsb'_byte b k 2

/-- The releaser of a byte. -/
theorem decodeReleaser_eq : decodeReleaser b = if b.getLsbD 7 then some (BitVec.ofNat 5 b.toNat) else none := by
  rw [decodeReleaser, low5]

theorem decodeAction_readFrom : (decodeAction b).ReadFrom b := by
  have hkind := decodeKind_ofCode (b.extractLsb' 4 4)
  rw [top4] at hkind
  refine ⟨hkind, ?_⟩
  have htarget : (decodeAction b).target =
      if (decodeAction b).kind = .none then none else some (three (b.extractLsb' 0 3)) := rfl
  rw [htarget]
  split
  · rfl
  · exact congrArg some (low_toNat b 3)
end

/-! ## Entries -/

theorem imageSource_readFrom (img : List Byte) (i : Fin 16) :
    (imageSource img i).ReadFrom (fun k => imgByte img (11 + 8 * i.val + k)) := by
  have hmode := decodeMode_ofCode ((imgByte img (11 + 8 * i.val + 0)).extractLsb' 5 3)
  have horigin := decodeOrigin_ofCode ((imgByte img (11 + 8 * i.val + 0)).extractLsb' 0 5)
  rw [top3] at hmode
  rw [low_toNat] at horigin
  refine ⟨hmode, horigin, rfl, rfl, rfl, low_toNat _ 3, rfl, fun r => ?_⟩
  have hlook : look (imageSource img i).releasers r = decodeReleaser (imgByte img (11 + 8 * i.val + (4 + r.val))) :=
    look_ofFn _ r
  rw [hlook, decodeReleaser_eq]

theorem imageSub_readFrom (img : List Byte) (k : Fin 32) :
    (imageSub img k).ReadFrom (fun n => imgByte img (139 + 6 * k.val + n)) := by
  have hkinds := decodeKinds_ofCode ((imgByte img (139 + 6 * k.val + 1)).extractLsb' 0 2)
  have hgroup := decodeGroup_ofCode ((imgByte img (139 + 6 * k.val + 2)).extractLsb' 5 3)
  have hpolicy := decodeRelease_ofCode ((imgByte img (139 + 6 * k.val + 2)).extractLsb' 3 2)
  rw [low_toNat] at hkinds
  rw [top3] at hgroup
  rw [middle2] at hpolicy
  refine ⟨rfl, ?_, hkinds, hgroup, hpolicy, decodeAction_readFrom _, decodeAction_readFrom _, ?_⟩
  · rw [← top5]
    rfl
  · exact congrArg some (low_toNat _ 4)

theorem imageProfile_readFrom (img : List Byte) (p : Fin 16) :
    (imageProfile img p).ReadFrom (fun n => imgByte img (331 + 8 * p.val + n)) := by
  have hunit : (imageProfile img p).unit = decodeUnit (imgByte img (331 + 8 * p.val + 7)) := rfl
  exact ⟨rfl, rfl, rfl, rfl, fun h => hunit.trans (congrArg decodeUnit h), fun h => hunit.trans (congrArg decodeUnit h),
    fun h => hunit.trans (congrArg decodeUnit h), fun h => hunit.trans (congrArg decodeUnit h)⟩

theorem imageGen_readFrom (img : List Byte) (g : Fin 8) :
    (imageGen img g).ReadFrom (fun n => imgByte img (459 + 2 * g.val + n)) := by
  have hpolicy : ∀ c : BitVec 2, (c.toNat = 0 → decodeRetrigger c = .ignore) ∧
      (c.toNat = 1 → decodeRetrigger c = .restart) ∧
      (c.toNat = 2 → decodeRetrigger c = .stack) := by decide
  have hpol := hpolicy ((imgByte img (459 + 2 * g.val + 1)).extractLsb' 5 2)
  rw [middle2] at hpol
  obtain ⟨hignore, hrestart, hstack⟩ := hpol
  refine ⟨top4 _, ?_, rfl, hignore, hrestart, hstack, rfl⟩
  have htarget : (imageGen img g).target =
      if (imgByte img (459 + 2 * g.val + 0)).getLsbD 3 then some (three ((imgByte img (459 + 2 * g.val + 0)).extractLsb' 0 3))
      else none := rfl
  rw [htarget]
  split
  · exact congrArg some (low_toNat _ 3)
  · rfl

/-- The maintenance address of the header. -/
theorem imageMaintenance_eq (img : List Byte) :
    imageMaintenance img = if imgByte img 8 = 0xFF then none else some (BitVec.ofNat 5 (imgByte img 8).toNat) := by
  rw [imageMaintenance, low5]

/-- A valid retry limit is a number of four bits. -/
theorem retryLimit_eq {img : List Byte} (hv : validate img = none) :
    ((imgByte img 6).extractLsb' 0 4).toNat = (imgByte img 6).toNat := by
  have hhead := ((validate_eq_none_iff img).1 hv).1
  have hlt : (imgByte img 6).toNat < 16 := by
    unfold checkHeader at hhead
    by_contra hge
    split at hhead
    · exact absurd hhead (by simp)
    · split at hhead
      · exact absurd hhead (by simp)
      · next h => exact h (by simp; omega)
  rw [low_toNat]
  exact Nat.mod_eq_of_lt hlt

end Sys2Proof.Machine
end

section
/-! PROOF. The triggers of the autostart generators (R75, R77, R93, R97). -/

namespace Sys2Proof.Machine

/-! ## The order of the triggers (R93) -/

theorem insertByRank_perm (rank : Fin 8 → Nat) (g : Fin 8) (l : List (Fin 8)) : (insertByRank rank g l).Perm (g :: l) := by
  induction l with
  | nil => exact .refl _
  | cons h l ih =>
    unfold insertByRank
    split
    · exact .refl _
    · exact (ih.cons h).trans (.swap g h l)

theorem autostarts_perm (s : State) : s.autostarts.Perm ((indices 8).filter (fun g => (s.gen g).autostart)) := by
  have hfold : ∀ l : List (Fin 8), (l.foldr (insertByRank (Config.autostartRank s.freeCount)) []).Perm l := by
    intro l
    induction l with
    | nil => exact .refl _
    | cons g l ih => exact (insertByRank_perm _ g _).trans (ih.cons g)
  exact hfold _

theorem mem_autostarts {s : State} {g : Fin 8} : g ∈ s.autostarts ↔ (s.gen g).autostart = true := by
  rw [(autostarts_perm s).mem_iff, List.mem_filter]
  simp

theorem autostarts_nodup (s : State) : s.autostarts.Nodup :=
  (autostarts_perm s).nodup_iff.2 ((List.nodup_finRange 8).filter _)

/-! ## One trigger (R75, R77, R97) -/

theorem fire_of_idle {s : State} {g : Fin 8} (h : (s.gen g).phase = .idle) :
    s.fire g 1 = (s.startRun g).presentLevel (.generator g) true := by
  have hfired : s.fired g 1 = s.startRun g := by
    unfold State.fired
    split
    · exact trigger_of_idle h
    · exact triggers_of_idle h 0
  rw [fire_eq s g (Nat.le_refl 1), hfired]

/-- Of a line only the owner differs, and a line that is owned keeps its owner. -/
structure LinesKept (s t : State) : Prop where
  line : ∀ o, t.out o = { s.out o with owner := (t.out o).owner }
  owner : ∀ o x, (s.out o).owner = some x → (t.out o).owner = some x

theorem LinesKept.refl (s : State) : LinesKept s s := ⟨fun _ => rfl, fun _ _ h => h⟩

theorem LinesKept.trans {s t u : State} (h : LinesKept s t) (k : LinesKept t u) : LinesKept s u :=
  ⟨fun o => by rw [k.line o, h.line o], fun o x hx => k.owner o x (h.owner o x hx)⟩

theorem LinesKept.of_eq {s t : State} (h : t.outs = s.outs) : LinesKept s t := by
  have hout : ∀ o, t.out o = s.out o := fun o => by rw [State.out, h]; rfl
  exact ⟨fun o => by rw [hout], fun o x hx => by rw [hout]; exact hx⟩

theorem claim_linesKept {s : State} {o : Fin 8} (g : Fin 8) (h : (s.out o).owner = none) :
    LinesKept s (s.setOut o { s.out o with owner := some g }) := by
  refine ⟨fun p => ?_, fun p x hx => ?_⟩ <;> rw [State.out_setOut] <;> split
  · next hop => rw [hop]
  · rfl
  · next hop =>
    rw [← hop, h] at hx
    exact absurd hx (by simp)
  · exact hx

/-- What a run that starts with the timer `tm` makes of its generator. -/
def Generator.begun (e : Generator) (v : Vector Profile 16) (p : GenPhase) (tm : Timer) (sh : Bool) : Generator :=
  { e.running v with phase := p, timer := tm, shadowed := sh }

/-- A run starts in DELAY, or in PULSE, shadowed when its line is taken. -/
theorem startRun_gen (s : State) (g : Fin 8) :
    let e := (s.gen g).applied s.profiles
    (e.active.delay ≠ 0 → (s.startRun g).gen g = (s.gen g).begun s.profiles .delay
      (some (s.time + e.active.delay.toNat * e.active.unit.us)) false) ∧
    (e.active.delay = 0 → ∃ sh, (s.startRun g).gen g = (s.gen g).begun s.profiles .pulse
      (some (s.time + e.active.width.toNat * e.active.unit.us)) sh ∧
      (sh = true → ∃ o x, (s.gen g).target = some o ∧ (s.out o).owner = some x)) := by
  have htarget : ((s.gen g).running s.profiles).target = (s.gen g).target := applied_target _ _
  refine ⟨fun hd => ?_, fun hd => ?_⟩
  · rw [startRun_of_delay hd, State.gen_setGen_self]
    rfl
  · obtain ⟨hnone, hfree, htaken⟩ := startRun_cases hd
    cases ht : (s.gen g).target with
    | none =>
      rw [hnone (htarget.trans ht), State.gen_setGen_self]
      exact ⟨false, rfl, fun h => absurd h (by decide)⟩
    | some o =>
      cases ho : (s.out o).owner with
      | none =>
        rw [hfree o (htarget.trans ht) ho, State.gen_setGen_self]
        exact ⟨false, rfl, fun h => absurd h (by decide)⟩
      | some x =>
        rw [htaken o x (htarget.trans ht) ho, State.gen_setGen_self]
        exact ⟨true, rfl, fun _ => ⟨o, x, rfl, ho⟩⟩

theorem startRun_linesKept (s : State) (g : Fin 8) : LinesKept s (s.startRun g) := by
  have htarget : ((s.gen g).running s.profiles).target = (s.gen g).target := applied_target _ _
  by_cases hd : ((s.gen g).applied s.profiles).active.delay = 0
  · obtain ⟨hnone, hfree, htaken⟩ := startRun_cases hd
    cases ht : (s.gen g).target with
    | none =>
      rw [hnone (htarget.trans ht)]
      exact .of_eq rfl
    | some o =>
      cases ho : (s.out o).owner with
      | none =>
        rw [hfree o (htarget.trans ht) ho]
        exact (claim_linesKept g ho).trans (.of_eq rfl)
      | some x =>
        rw [htaken o x (htarget.trans ht) ho]
        exact .of_eq rfl
  · rw [startRun_of_delay hd]
    exact .of_eq rfl

/-- The start of a run is not seen by the source table or the list. -/
theorem startRun_sources (s : State) (g : Fin 8) : (s.startRun g).sources = s.sources ∧ (s.startRun g).tx = s.tx := by
  have htarget : ((s.gen g).running s.profiles).target = (s.gen g).target := applied_target _ _
  by_cases hd : ((s.gen g).applied s.profiles).active.delay = 0
  · obtain ⟨hnone, hfree, htaken⟩ := startRun_cases hd
    cases ht : (s.gen g).target with
    | none =>
      rw [hnone (htarget.trans ht)]
      exact ⟨rfl, rfl⟩
    | some o =>
      cases ho : (s.out o).owner with
      | none =>
        rw [hfree o (htarget.trans ht) ho]
        exact ⟨rfl, rfl⟩
      | some x =>
        rw [htaken o x (htarget.trans ht) ho]
        exact ⟨rfl, rfl⟩
  · rw [startRun_of_delay hd]
    exact ⟨rfl, rfl⟩

/-! ## What a trigger keeps, running or not -/

/-- The triggers keep the invariant of the generators and the lines but their owners, and bring nothing into the list. -/
structure FireKeeps (s t : State) : Prop where
  side : GenSide s t
  safe : GeneratorsSafe s → GeneratorsSafe t
  tx : s.tx = [] → t.tx = []

theorem FireKeeps.refl (s : State) : FireKeeps s s := ⟨GenSide.refl s, id, id⟩

theorem FireKeeps.trans {s t u : State} (h : FireKeeps s t) (k : FireKeeps t u) : FireKeeps s u :=
  ⟨h.side.trans k.side, fun hs => k.safe (h.safe hs), fun hs => k.tx (h.tx hs)⟩

section
variable {s : State} {g : Fin 8}

theorem fire_keeps (h : (s.gen g).phase = .idle) : FireKeeps s (s.fire g 1) := by
  refine ⟨fire_side s g 1, fun hs => ?_, fun hs => ?_⟩
  · exact ((fire_run s g 1).run (A := True)).keeps (fun _ _ => Effect.keeps_generators) hs
  · rw [fire_of_idle h, presentLevel_tx, (startRun_sources s g).2, hs]
    rfl

theorem fire_gen (h : (s.gen g).phase = .idle) : (s.fire g 1).gen g = (s.startRun g).gen g := by
  rw [fire_of_idle h, presentLevel_gen]

theorem fire_gen_other (h : (s.gen g).phase = .idle) {x : Fin 8} (hx : x ≠ g) : (s.fire g 1).gen x = s.gen x := by
  rw [fire_of_idle h, presentLevel_gen, (startRun_started s g).others x hx]

theorem fire_linesKept (h : (s.gen g).phase = .idle) : LinesKept s (s.fire g 1) := by
  refine (startRun_linesKept s g).trans (.of_eq ?_)
  rw [fire_of_idle h]
  obtain ⟨⟨_, _, _, heq⟩, _⟩ := presentLevel_levelSide (s.startRun g) (.generator g) true
  rw [heq]

theorem fire_source_other (h : (s.gen g).phase = .idle) {i : Fin 16} (hi : (s.source i).follows (.generator g) = false) :
    (s.fire g 1).source i = s.source i := by
  have hsrc : (s.startRun g).source i = s.source i := by
    rw [State.source, (startRun_sources s g).1]
    rfl
  rw [fire_of_idle h, presentLevel_of_not_follows (by rw [hsrc]; exact hi), hsrc]
end

/-! ## The triggers in succession -/

/-- One trigger for each generator of the list. -/
def State.fireAll (s : State) (l : List (Fin 8)) : State := l.foldl (fun u g => u.fire g 1) s

theorem fireAll_cons (s : State) (g : Fin 8) (l : List (Fin 8)) : s.fireAll (g :: l) = (s.fire g 1).fireAll l := by
  rw [State.fireAll, List.foldl_cons, State.fireAll]

theorem fireAll_append (s : State) (l m : List (Fin 8)) : s.fireAll (l ++ m) = (s.fireAll l).fireAll m :=
  List.foldl_append

/-- Triggers for the idle generators of a list leave the others, and the entries that follow the others. -/
structure FiredAll (s : State) (l : List (Fin 8)) (t : State) : Prop where
  keeps : FireKeeps s t
  lines : LinesKept s t
  gen : ∀ x ∉ l, t.gen x = s.gen x
  source : ∀ i, (∀ x ∈ l, (s.source i).follows (.generator x) = false) → t.source i = s.source i

theorem fireAll_spec (l : List (Fin 8)) (s : State) (hl : l.Nodup) (h : ∀ g ∈ l, (s.gen g).phase = .idle) :
    FiredAll s l (s.fireAll l) := by
  induction l generalizing s with
  | nil => exact ⟨.refl s, .refl s, fun _ _ => rfl, fun _ _ => rfl⟩
  | cons g l ih =>
    obtain ⟨hg, hl⟩ := List.nodup_cons.1 hl
    have hidle := h g (by simp)
    have hne : ∀ x ∈ l, x ≠ g := fun x hx hxg => hg (hxg ▸ hx)
    have hrest := ih (s.fire g 1) hl fun x hx => by
      rw [fire_gen_other hidle (hne x hx)]
      exact h x (by simp [hx])
    rw [fireAll_cons]
    refine ⟨(fire_keeps hidle).trans hrest.keeps, (fire_linesKept hidle).trans hrest.lines, fun x hx => ?_, fun i hi => ?_⟩
    · simp only [List.mem_cons, not_or] at hx
      rw [hrest.gen x hx.2, fire_gen_other hidle hx.1]
    · have hsrc := fire_source_other hidle (hi g (by simp))
      rw [hrest.source i fun x hx => by rw [hsrc]; exact hi x (by simp [hx]), hsrc]

theorem follows_other {e : SourceEntry} {g x : Fin 8} (h : e.origin = .generator g) (hx : x ≠ g) :
    e.follows (.generator x) = false := by
  simp [SourceEntry.follows, h, Ne.symm hx]

/-- The trigger of one generator of the list finds it and the entries that follow it as they were, and what it makes of
them stays. -/
structure FiredAt (s : State) (g : Fin 8) (v t : State) : Prop where
  before : FireKeeps s v
  gen : v.gen g = s.gen g
  source : ∀ i, (s.source i).origin = .generator g → v.source i = s.source i
  lines : LinesKept v t
  genAfter : t.gen g = (v.startRun g).gen g
  sourceAfter : ∀ i, ((v.fire g 1).source i).origin = .generator g → t.source i = (v.fire g 1).source i

theorem fireAll_at {l : List (Fin 8)} {s : State} (hl : l.Nodup) (h : ∀ g ∈ l, (s.gen g).phase = .idle) {g : Fin 8}
    (hg : g ∈ l) : ∃ v, FiredAt s g v (s.fireAll l) := by
  obtain ⟨l1, l2, rfl⟩ := List.append_of_mem hg
  obtain ⟨hl1, hcons, hdisj⟩ := List.nodup_append.1 hl
  obtain ⟨hg2, hl2⟩ := List.nodup_cons.1 hcons
  have hne1 : ∀ x ∈ l1, x ≠ g := fun x hx => hdisj x hx g (by simp)
  have hne2 : ∀ x ∈ l2, x ≠ g := fun x hx hxg => hg2 (hxg ▸ hx)
  have hbefore := fireAll_spec l1 s hl1 fun x hx => h x (by simp [hx])
  have hgen : (s.fireAll l1).gen g = s.gen g := hbefore.gen g fun hgl => hne1 g hgl rfl
  have hidle : ((s.fireAll l1).gen g).phase = .idle := by
    rw [hgen]
    exact h g hg
  have hafter := fireAll_spec l2 ((s.fireAll l1).fire g 1) hl2 fun x hx => by
    have hx1 : x ∉ l1 := fun hx1 => hdisj x hx1 x (by simp [hx]) rfl
    rw [fire_gen_other hidle (hne2 x hx), hbefore.gen x hx1]
    exact h x (by simp [hx])
  rw [fireAll_append, fireAll_cons]
  refine ⟨s.fireAll l1, hbefore.keeps, hgen, fun i hi => ?_, (fire_linesKept hidle).trans hafter.lines, ?_, fun i hi => ?_⟩
  · exact hbefore.source i fun x hx => follows_other hi (hne1 x hx)
  · rw [hafter.gen g hg2, fire_gen hidle]
  · exact hafter.source i fun x hx => follows_other hi (hne2 x hx)

end Sys2Proof.Machine
end

section
/-! PROOF. The source table at READY (R10, R20, R35, R93, R183). -/

namespace Sys2Proof.Machine

/-! ## The evaluation of the conditions (R10, R20) -/

/-- Only the source table differs. -/
def SourcesOnly (s t : State) : Prop := t = { s with sources := t.sources }

theorem SourcesOnly.refl (s : State) : SourcesOnly s s := rfl

theorem SourcesOnly.trans {s t u : State} (h : SourcesOnly s t) (k : SourcesOnly t u) : SourcesOnly s u := by
  unfold SourcesOnly at *
  rw [k, h]

theorem evaluateCondition_sourcesOnly (s : State) (i : Fin 16) : SourcesOnly s (s.evaluateCondition i) := by
  unfold State.evaluateCondition
  dsimp only
  split <;> rfl

/-- What the evaluation of the entry `i` depends on stays. -/
def EvaluatesSame (i : Fin 16) (s t : State) : Prop := SourcesOnly s t ∧ KeepsSource i s t

theorem evaluateCondition_other (s : State) {i j : Fin 16} (h : i ≠ j) : EvaluatesSame j s (s.evaluateCondition i) :=
  ⟨evaluateCondition_sourcesOnly s i, evaluateCondition_source_ne s h⟩

/-- The entry with its condition found asserted, at the number 0. -/
def SourceEntry.opened (e : SourceEntry) (required : List Addr) : SourceEntry :=
  { e with condition := true, inst := 0, required := required, holdState := .announcing }

/-- The entry with the number 0 retracted (R35). -/
def SourceEntry.closed (e : SourceEntry) (required : List Addr) : SourceEntry := { e with inst := 0, required := required }

/-- Every condition is evaluated. -/
def State.evaluated (s : State) : State := forEach (fun i w => w.evaluateCondition i) s

theorem evaluated_sourcesOnly (s : State) : SourcesOnly s s.evaluated :=
  forEach_rel SourcesOnly.refl SourcesOnly.trans _ (fun i t => evaluateCondition_sourcesOnly t i) s

theorem imageSource_inst (img : List Byte) (i : Fin 16) : (imageSource img i).inst = 15 := rfl

theorem imageSource_begun (img : List Byte) (i : Fin 16) (required : List Addr) :
    ({ imageSource img i with
      condition := true, inst := (imageSource img i).inst + 1, received := [], required := required, reannounces := 0
      announced := false, dropNoted := false, predOpen := false, releaseTimer := none, repeatTimer := none
      holdState := .announcing } : SourceEntry) = (imageSource img i).opened required := by
  have hinst : (imageSource img i).inst + 1 = 0 := by
    rw [imageSource_inst]
    decide
  rw [hinst, SourceEntry.opened]
  rfl

theorem conditionAsserts_image {s : State} {img : List Byte} {i : Fin 16} (h : s.source i = imageSource img i) :
    (s.conditionAsserts i).source i = (imageSource img i).opened (s.requiredFor (imageSource img i)) := by
  have hquiet : (s.source i).holdState = .quiet := by
    rw [h]
    rfl
  rw [conditionAsserts_of_quiet hquiet, State.source_setSource_self, h, imageSource_begun]

theorem evaluateCondition_of_asserted {s : State} {i : Fin 16}
    (h : ((s.source i).isHold && (s.source i).mode.asserted (s.originLevel (s.source i).origin)) = true)
    (hquiet : (s.source i).holdState = .quiet) : s.evaluateCondition i = s.conditionAsserts i := by
  simp only [State.evaluateCondition, h, if_true, State.conditionAsserts, hquiet]

/-- The entry as the evaluation leaves it, its origin at `level`. -/
def SourceEntry.evaluatedAt (e : SourceEntry) (level : Bool) (required : List Addr) : SourceEntry :=
  if e.isHold && e.mode.asserted level then e.opened required else e

theorem evaluateCondition_image {s : State} {img : List Byte} {i : Fin 16} (h : s.source i = imageSource img i) :
    (s.evaluateCondition i).source i =
      (imageSource img i).evaluatedAt (s.originLevel (imageSource img i).origin) (s.requiredFor (imageSource img i)) := by
  cases hc : (imageSource img i).isHold && (imageSource img i).mode.asserted (s.originLevel (imageSource img i).origin) with
  | true =>
    rw [evaluateCondition_of_asserted (by rw [h]; exact hc) (by rw [h]; rfl), conditionAsserts_image h,
      SourceEntry.evaluatedAt, if_pos hc]
  | false =>
    rw [State.evaluateCondition, h, SourceEntry.evaluatedAt]
    rw [hc, if_neg (by decide), if_neg (by decide), h]

/-- Each condition is evaluated on the table as it was loaded. -/
theorem evaluated_source {s : State} {img : List Byte} {i : Fin 16} (h : s.source i = imageSource img i) :
    s.evaluated.source i =
      (imageSource img i).evaluatedAt (s.originLevel (imageSource img i).origin) (s.requiredFor (imageSource img i)) := by
  obtain ⟨before, after, hb, ha, heq⟩ := forEach_split (fun i t => State.evaluateCondition t i) i
  have hrefl : ∀ t, EvaluatesSame i t t := fun t => ⟨.refl t, .refl i t⟩
  have htrans : ∀ {t u v}, EvaluatesSame i t u → EvaluatesSame i u v → EvaluatesSame i t v :=
    fun h k => ⟨h.1.trans k.1, h.2.trans k.2⟩
  have hbefore := foldl_rel_of_mem hrefl htrans (fun t x => State.evaluateCondition t x) before
    (fun x hx t => evaluateCondition_other t (hb x hx)) s
  have hafter := fun w => (foldl_rel_of_mem hrefl htrans (fun t x => State.evaluateCondition t x) after
    (fun x hx t => evaluateCondition_other t (ha x hx)) w).2
  have hsource : s.evaluated.source i =
      ((before.foldl (fun t x => t.evaluateCondition x) s).evaluateCondition i).source i := by
    rw [State.evaluated, heq]
    exact hafter _
  rw [hsource]
  generalize before.foldl (fun t x => t.evaluateCondition x) s = v at hbefore
  obtain ⟨hframe, hsrc⟩ := hbefore
  have himage : v.source i = imageSource img i := Eq.trans hsrc h
  have hlevel : ∀ o, v.originLevel o = s.originLevel o := fun o => by
    rw [hframe]
    cases o <;> rfl
  have hrequired : ∀ e, v.requiredFor e = s.requiredFor e := fun e => by
    rw [hframe]
    rfl
  rw [evaluateCondition_image himage, hlevel, hrequired]

end Sys2Proof.Machine
end

section
/-! PROOF. The sources and the generators after the autostart triggers (R35, R75, R93, R97). -/

namespace Sys2Proof.Machine

/-! ## The levels at READY -/

/-- The tables, the lines and the list at READY, before the conditions are evaluated. -/
structure Loaded (img : List Byte) (u : State) : Prop where
  source : ∀ i, u.source i = imageSource img i
  gen : ∀ g, u.gen g = imageGen img g
  counter : ∀ c, u.counter c = imageCounter img c
  free : ∀ o, (u.out o).owner = none
  tx : u.tx = []

/-- The level a hold-mode entry ends at: a generator is busy when it starts by itself. -/
def State.readyLevel (s : State) (o : Origin) : Bool :=
  match o with
  | .input n => (s.input n).filtered
  | .generator g => (s.gen g).autostart
  | .counter _ | .none => false

/-- The entry at READY, its origin at `level`. -/
def SourceEntry.atReady (e : SourceEntry) (level : Bool) (required : List Addr) : SourceEntry :=
  if e.isHold && e.mode.asserted level then e.opened required
  else if e.isHold = true ∧ e.mode = .holdLow ∧ ∃ g, e.origin = .generator g then e.closed required
  else e

section
variable {s t : State} (h : SourcesOnly s t)
include h

theorem SourcesOnly.side : GenSide s t := ⟨t.sources, s.tx, s.faults, s.tallies, s.gens, s.outs, s.slots, h⟩

theorem SourcesOnly.gen (g : Fin 8) : t.gen g = s.gen g := by
  unfold SourcesOnly at h
  rw [h]
  rfl

theorem SourcesOnly.out (o : Fin 8) : t.out o = s.out o := by
  unfold SourcesOnly at h
  rw [h]
  rfl

theorem SourcesOnly.tx_eq : t.tx = s.tx := by
  unfold SourcesOnly at h
  rw [h]
end

theorem requiredFor_genSide {s t : State} (h : GenSide s t) (e : SourceEntry) : t.requiredFor e = s.requiredFor e := by
  obtain ⟨_, _, _, _, _, _, _, rfl⟩ := h
  rfl

theorem genSide_time {s t : State} (h : GenSide s t) : t.time = s.time := by
  obtain ⟨_, _, _, _, _, _, _, rfl⟩ := h
  rfl

section
variable {img : List Byte} {u : State}

theorem Loaded.gen_evaluated (h : Loaded img u) (g : Fin 8) : u.evaluated.gen g = imageGen img g := by
  rw [(evaluated_sourcesOnly u).gen, h.gen]

theorem Loaded.idle (h : Loaded img u) (g : Fin 8) : (u.evaluated.gen g).phase = .idle := by
  rw [h.gen_evaluated]
  rfl

theorem Loaded.mem_autostarts (h : Loaded img u) {g : Fin 8} :
    g ∈ u.evaluated.autostarts ↔ (imageGen img g).autostart = true := by
  rw [Machine.mem_autostarts, h.gen_evaluated]

/-- Only the level of an autostart generator still changes. -/
theorem Loaded.originLevel_eq (h : Loaded img u) (hv : validate img = none) {o : Origin}
    (ho : ∀ g, o = .generator g → (imageGen img g).autostart = false) : u.originLevel o = u.readyLevel o := by
  cases o with
  | input n => rfl
  | none => rfl
  | generator g =>
    have hlevel : u.originLevel (.generator g) = (u.gen g).busy := rfl
    have hready : u.readyLevel (.generator g) = (u.gen g).autostart := rfl
    rw [hlevel, hready, h.gen, ho g rfl]
    rfl
  | counter c =>
    have hlevel : u.originLevel (.counter c) = (u.counter c).atTerminal := rfl
    have hpos := (imageCounter_inRange hv c).1
    have hready : u.readyLevel (.counter c) = false := rfl
    rw [hlevel, hready, h.counter, Counter.atTerminal, decide_eq_false_iff_not]
    intro hval
    have hzero : (imageCounter img c).value.toNat = 0 := rfl
    rw [← hval, hzero] at hpos
    exact absurd hpos (by decide)

/-! ## The entries (R35, R93) -/

/-- An entry that no autostart generator reaches is as its evaluation left it. -/
theorem Loaded.evaluatedAt_eq_atReady (h : Loaded img u) (hv : validate img = none) {i : Fin 16}
    (ho : ∀ g, (imageSource img i).isHold = true → (imageSource img i).origin = .generator g →
      (imageGen img g).autostart = false) (required : List Addr) :
    (imageSource img i).evaluatedAt (u.originLevel (imageSource img i).origin) required =
      (imageSource img i).atReady (u.readyLevel (imageSource img i).origin) required := by
  cases hhold : (imageSource img i).isHold with
  | false => simp [SourceEntry.evaluatedAt, SourceEntry.atReady, hhold]
  | true =>
    rw [SourceEntry.evaluatedAt, SourceEntry.atReady, h.originLevel_eq hv fun g => ho g hhold]
    split
    · rfl
    · next hn =>
      rw [if_neg]
      rintro ⟨_, hlow, g, hg⟩
      have hlevel : u.readyLevel (.generator g) = (u.gen g).autostart := rfl
      rw [hhold, hlow, hg, hlevel, h.gen, ho g hhold hg] at hn
      exact hn rfl

theorem mode_of_isHold {e : SourceEntry} (h : e.isHold = true) : e.mode = .holdHigh ∨ e.mode = .holdLow := by
  obtain ⟨hmode, _⟩ := Bool.and_eq_true_iff.1 h
  cases hm : e.mode <;> simp [hm, Mode.isHold] at hmode ⊢

theorem opened_not_asserted {e : SourceEntry} {required : List Addr} (h : e.mode = .holdLow) :
    (e.opened required).mode.asserted true = false := by
  have hmode : (e.opened required).mode = .holdLow := h
  rw [hmode]
  rfl

theorem retracted_of_unsent {e : SourceEntry} (ha : e.announced = false) (hp : e.predOpen = false) :
    e.retracted = { e with holdState := .quiet, dropNoted := false } := by
  simp [SourceEntry.retracted, ha, hp]

theorem retracted_image (img : List Byte) (i : Fin 16) (required : List Addr) :
    ({ (imageSource img i).opened required with condition := false } : SourceEntry).retracted =
      (imageSource img i).closed required := by
  rw [retracted_of_unsent rfl rfl]
  rfl

/-- The trigger of an autostart generator asserts a HOLD-HIGH entry that follows it, and drops a HOLD-LOW one. -/
theorem startRun_busy {v : State} {g : Fin 8} {i : Fin 16} (hidle : (v.gen g).phase = .idle) (htx : v.tx = [])
    (horigin : (imageSource img i).origin = .generator g) (hhold : (imageSource img i).isHold = true)
    (hsrc : v.source i = (imageSource img i).evaluatedAt false (v.requiredFor (imageSource img i))) :
    (v.fire g 1).source i = (imageSource img i).atReady true (v.requiredFor (imageSource img i)) := by
  obtain ⟨hsources, hlist⟩ := startRun_sources v g
  have hstarted : (v.startRun g).source i = v.source i := by
    rw [State.source, hsources]
    rfl
  have hrequired := requiredFor_genSide (startRun_side v g) (imageSource img i)
  rw [hsrc] at hstarted
  rw [fire_of_idle hidle]
  rcases mode_of_isHold hhold with hhigh | hlow
  · have hquiet : (v.startRun g).source i = imageSource img i := by
      rw [hstarted, SourceEntry.evaluatedAt, hhigh, if_neg (by simp [Mode.asserted])]
    rw [presentLevel_of_asserts (by rw [hquiet]; exact follows_iff.2 ⟨horigin, hhold⟩) (by rw [hquiet]; rfl)
      (by rw [hquiet, hhigh]; rfl), conditionAsserts_image hquiet, hrequired, SourceEntry.atReady, hhold, hhigh,
      if_pos (by decide)]
  · have hopen : (v.startRun g).source i = (imageSource img i).opened (v.requiredFor (imageSource img i)) := by
      rw [hstarted, SourceEntry.evaluatedAt, hhold, hlow, if_pos (by decide)]
    have hoff : (v.startRun g).holdOnBus i = false := by
      rw [State.holdOnBus, hlist, htx]
      rfl
    rw [presentLevel_of_drops (by rw [hopen]; exact follows_iff.2 ⟨horigin, hhold⟩) (by rw [hopen]; rfl)
      (by rw [hopen]; exact opened_not_asserted hlow), conditionDrops_of_offBus (by rw [hopen]; rfl) hoff,
      State.source_setSource_self, hopen, retracted_image, SourceEntry.atReady, hlow, if_neg (by simp [Mode.asserted]),
      if_pos ⟨hhold, rfl, g, horigin⟩]

/-- Every condition is evaluated, and every autostart generator has its trigger. -/
def State.autostarted (s : State) : State := s.evaluated.fireAll s.evaluated.autostarts

theorem Loaded.autostarted_spec (h : Loaded img u) : FiredAll u.evaluated u.evaluated.autostarts u.autostarted :=
  fireAll_spec _ _ (autostarts_nodup _) fun g _ => h.idle g

theorem Loaded.autostarted_at (h : Loaded img u) {g : Fin 8} (hg : (imageGen img g).autostart = true) :
    ∃ v, FiredAt u.evaluated g v u.autostarted :=
  fireAll_at (autostarts_nodup _) (fun g _ => h.idle g) (h.mem_autostarts.2 hg)

theorem evaluatedAt_origin (e : SourceEntry) (level : Bool) (required : List Addr) :
    (e.evaluatedAt level required).origin = e.origin := by
  unfold SourceEntry.evaluatedAt
  split <;> rfl

theorem atReady_origin (e : SourceEntry) (level : Bool) (required : List Addr) :
    (e.atReady level required).origin = e.origin := by
  unfold SourceEntry.atReady
  split
  · rfl
  · split <;> rfl

theorem atReady_isHold (e : SourceEntry) (level : Bool) (required : List Addr) :
    (e.atReady level required).isHold = e.isHold := by
  unfold SourceEntry.atReady
  split
  · rfl
  · split <;> rfl

theorem Loaded.source_of_autostart (h : Loaded img u) {i : Fin 16} {g : Fin 8} (hg : (imageGen img g).autostart = true)
    (hhold : (imageSource img i).isHold = true) (horigin : (imageSource img i).origin = .generator g) :
    u.autostarted.source i = (imageSource img i).atReady true (u.requiredFor (imageSource img i)) := by
  obtain ⟨v, hv⟩ := h.autostarted_at hg
  have hlevel : u.originLevel (.generator g) = false := by
    have hbusy : u.originLevel (.generator g) = (u.gen g).busy := rfl
    rw [hbusy, h.gen]
    rfl
  have hrequired : v.requiredFor (imageSource img i) = u.requiredFor (imageSource img i) := by
    rw [requiredFor_genSide hv.before.side, requiredFor_genSide (evaluated_sourcesOnly u).side]
  have hevaluated := evaluated_source (h.source i)
  rw [horigin, hlevel] at hevaluated
  have hsrc : v.source i = (imageSource img i).evaluatedAt false (v.requiredFor (imageSource img i)) := by
    rw [hv.source i (by rw [hevaluated, evaluatedAt_origin, horigin]), hevaluated, hrequired]
  have htx : v.tx = [] := hv.before.tx (by rw [(evaluated_sourcesOnly u).tx_eq, h.tx])
  have hfire := startRun_busy (by rw [hv.gen]; exact h.idle g) htx horigin hhold hsrc
  rw [hv.sourceAfter i (by rw [hfire, atReady_origin, horigin]), hfire, hrequired]

/-- The source table at READY. -/
theorem Loaded.source_ready (h : Loaded img u) (hv : validate img = none) (i : Fin 16) :
    u.autostarted.source i =
      (imageSource img i).atReady (u.readyLevel (imageSource img i).origin) (u.requiredFor (imageSource img i)) := by
  by_cases hex : ∃ g, (imageSource img i).isHold = true ∧ (imageSource img i).origin = .generator g ∧
      (imageGen img g).autostart = true
  · obtain ⟨g, hhold, horigin, hg⟩ := hex
    have hlevel : u.readyLevel (.generator g) = true := by
      have hready : u.readyLevel (.generator g) = (u.gen g).autostart := rfl
      rw [hready, h.gen, hg]
    rw [h.source_of_autostart hg hhold horigin, horigin, hlevel]
  · have hnone : ∀ g, (imageSource img i).isHold = true → (imageSource img i).origin = .generator g →
        (imageGen img g).autostart = false := fun g hhold horigin =>
      Bool.eq_false_iff.2 fun hg => hex ⟨g, hhold, horigin, hg⟩
    have hevaluated := evaluated_source (h.source i)
    rw [h.evaluatedAt_eq_atReady hv hnone] at hevaluated
    rw [h.autostarted_spec.source i fun x hx => ?_, hevaluated]
    rw [Bool.eq_false_iff, hevaluated, Ne, follows_iff, atReady_origin, atReady_isHold]
    rintro ⟨horigin, hhold⟩
    exact absurd (h.mem_autostarts.1 hx) (by rw [hnone x hhold horigin]; decide)

/-! ## The generators (R75, R97) -/

theorem imageGen_applied (img : List Byte) (g : Fin 8) (v : Vector Profile 16) :
    (imageGen img g).applied v = imageGen img g := rfl

/-- The run of an autostart generator, from the moment `time`. -/
structure BegunAt (time : Nat) (e d : Generator) (p : Profile) : Prop where
  remaining : e.remaining = p.pulses
  kept : e = { d with
    phase := e.phase, timer := e.timer, remaining := e.remaining, shadowed := e.shadowed, pendingTrigger := false }
  delay : p.delay ≠ 0 → e.phase = .delay ∧ e.timer = some (time + p.delay.toNat * p.unit.us) ∧ e.shadowed = false
  pulse : p.delay = 0 → e.phase = .pulse ∧ e.timer = some (time + p.width.toNat * p.unit.us)

theorem begunAt_of_gen {s : State} {g : Fin 8} (h : s.gen g = imageGen img g) :
    BegunAt s.time ((s.startRun g).gen g) (imageGen img g) (imageGen img g).active := by
  obtain ⟨hdelay, hpulse⟩ := startRun_gen s g
  rw [h, imageGen_applied] at hdelay hpulse
  by_cases hd : (imageGen img g).active.delay = 0
  · obtain ⟨sh, hgen, _⟩ := hpulse hd
    rw [hgen]
    exact ⟨rfl, rfl, fun hn => absurd hd hn, fun _ => ⟨rfl, rfl⟩⟩
  · rw [hdelay hd]
    exact ⟨rfl, rfl, fun _ => ⟨rfl, rfl, rfl⟩, fun hn => absurd hn hd⟩

theorem Loaded.gen_of_autostart (h : Loaded img u) {g : Fin 8} (hg : (imageGen img g).autostart = true) :
    BegunAt u.time (u.autostarted.gen g) (imageGen img g) (imageGen img g).active := by
  obtain ⟨v, hv⟩ := h.autostarted_at hg
  have hgen : v.gen g = imageGen img g := by rw [hv.gen, h.gen_evaluated]
  have htime : v.time = u.time := by
    rw [genSide_time hv.before.side, genSide_time (evaluated_sourcesOnly u).side]
  rw [hv.genAfter, ← htime]
  exact begunAt_of_gen hgen

theorem Loaded.gen_of_not_autostart (h : Loaded img u) {g : Fin 8} (hg : (imageGen img g).autostart = false) :
    u.autostarted.gen g = imageGen img g := by
  rw [h.autostarted_spec.gen g fun hmem => ?_, h.gen_evaluated]
  exact absurd (h.mem_autostarts.1 hmem) (by rw [hg]; decide)

theorem Loaded.safe (h : Loaded img u) : GeneratorsSafe u.autostarted := by
  refine h.autostarted_spec.keeps.safe (.of_idle (fun g => ?_) fun o => ?_)
  · rw [h.gen_evaluated]
    rfl
  · rw [(evaluated_sourcesOnly u).out]
    exact h.free o

/-- The line of a shadowed generator is owned by another. -/
theorem Loaded.shadowed_owner (h : Loaded img u) {g : Fin 8} (hsh : (u.autostarted.gen g).shadowed = true) :
    ∃ o x, (u.autostarted.gen g).target = some o ∧ x ≠ g ∧ (u.autostarted.out o).owner = some x := by
  cases hg : (imageGen img g).autostart with
  | false =>
    rw [h.gen_of_not_autostart hg] at hsh
    exact absurd hsh Bool.false_ne_true
  | true =>
    obtain ⟨v, hv⟩ := h.autostarted_at hg
    have hgen : v.gen g = imageGen img g := by rw [hv.gen, h.gen_evaluated]
    have hbegun := h.gen_of_autostart hg
    obtain ⟨_, hpulse⟩ := startRun_gen v g
    rw [hgen, imageGen_applied] at hpulse
    have hd : (imageGen img g).active.delay = 0 := by
      by_contra hn
      rw [(hbegun.delay hn).2.2] at hsh
      exact absurd hsh (by decide)
    obtain ⟨sh, heq, htaken⟩ := hpulse hd
    have hshadow : sh = true := by
      rw [hv.genAfter, heq] at hsh
      exact hsh
    obtain ⟨o, x, htarget, howner⟩ := htaken hshadow
    have hfinal := hv.lines.owner o x howner
    refine ⟨o, x, ?_, fun hx => ?_, hfinal⟩
    · rw [hbegun.kept]
      exact htarget
    · obtain ⟨_, _, hfree⟩ := (h.safe.2 g o).1 (hx ▸ hfinal)
      rw [hsh] at hfree
      exact absurd hfree (by decide)
end

end Sys2Proof.Machine
end

section
/-! PROOF. The configuration at READY, before the conditions are evaluated (R181, R183). -/

namespace Sys2Proof.Machine

/-! ## The state at READY before the conditions are evaluated -/

/-- The loader at READY, every block configured, the station LISTENING. -/
def State.loaded (s : State) (img : List Byte) : State :=
  ((s.setLoader { s.loader with phase := .ready }).configure img).goOnline (imageSignature img)

theorem loadReady_eq (s : State) (img : List Byte) :
    s.loadReady img = { (s.loaded img).autostarted with freeCount := (s.loaded img).autostarted.freeCount + 1 } := rfl

section
variable (s : State) (img : List Byte)

theorem loaded_source (i : Fin 16) : (s.loaded img).source i = imageSource img i := by
  rw [State.loaded, State.source, goOnline_sources, configure_sources, look_ofFn]

theorem loaded_tables : (s.loaded img).gens = Vector.ofFn (imageGen img) ∧
    (s.loaded img).counters = Vector.ofFn (imageCounter img) ∧ (s.loaded img).profiles = Vector.ofFn (imageProfile img) ∧
    (s.loaded img).subs = Vector.ofFn (imageSub img) ∧
    (s.loaded img).inputs = Vector.ofFn (fun n => imageInput img n (look s.pins n)) ∧
    (s.loaded img).groups = Vector.ofFn (fun (m : Fin 4) => (imgByte img 9).getLsbD m.val) ∧
    (s.loaded img).tx = s.tx := by
  rw [State.loaded, goOnline_eq, State.configure, State.refreshOrphaned, State.setFaults]
  exact ⟨rfl, rfl, rfl, rfl, rfl, rfl, rfl⟩

theorem loaded_out (o : Fin 8) : (s.loaded img).out o = imageOut img o false := by
  rw [State.loaded, goOnline_eq, State.out]
  dsimp only
  rw [look_map_forced]
  have houts : ((s.setLoader { s.loader with phase := .ready }).configure img).outs =
      Vector.ofFn (fun o => imageOut img o true) := rfl
  rw [houts, look_ofFn]
  rfl

/-- The parts of the state that no autostart trigger reaches. -/
def State.ReadyFrame (s : State) (img : List Byte) (u : State) : Prop :=
  u.loader.phase = .ready ∧ u.loader.signature = some (imageSignature img) ∧ u.time = s.time ∧
    u.bus.station = .listening ∧ u.bus.phase = .waitingIdle ∧ u.bus.standing = 15 ∧
    u.bus.holdOff = some (s.time + 2 * ((imgByte img 5).toNat * 10000)) ∧
    u.beacon.timer = some (s.time + (imgByte img 5).toNat * 10000) ∧ u.bus.beaconInterval = imgByte img 5 ∧
    u.bus.retryLimit = (imgByte img 6).extractLsb' 0 4 ∧ u.releaseTimeout = imgByte img 7 ∧
    u.bus.safeOnWithdraw = (imgByte img 10).getLsbD 0 ∧ u.bus.requireCommonImage = (imgByte img 10).getLsbD 1 ∧
    u.maintenance = imageMaintenance img ∧ u.roster = upd s.roster (addrIdx s.address)
      { look s.roster (addrIdx s.address) with signature := some (imageSignature img) }

/-- The parts of the state that a configuration with the image settles before the station comes online. -/
structure Headed (s : State) (img : List Byte) (w : State) : Prop where
  phase : w.loader.phase = .ready
  time : w.time = s.time
  address : w.address = s.address
  roster : w.roster = s.roster
  interval : w.bus.beaconInterval = imgByte img 5
  retries : w.bus.retryLimit = (imgByte img 6).extractLsb' 0 4
  withdraw : w.bus.safeOnWithdraw = (imgByte img 10).getLsbD 0
  common : w.bus.requireCommonImage = (imgByte img 10).getLsbD 1
  release : w.releaseTimeout = imgByte img 7
  maintenance : w.maintenance = imageMaintenance img

theorem Headed.goOnline {s w : State} {img : List Byte} (h : Headed s img w) :
    s.ReadyFrame img (w.goOnline (imageSignature img)) := by
  have hbeacon : w.bus.beaconUs = (imgByte img 5).toNat * 10000 := by
    rw [BusInterface.beaconUs, h.interval, tenMs]
  rw [goOnline_eq, State.ReadyFrame]
  dsimp only
  rw [h.time, h.address, h.roster, hbeacon]
  exact ⟨h.phase, rfl, rfl, rfl, rfl, rfl, rfl, rfl, h.interval, h.retries, h.release, h.withdraw, h.common,
    h.maintenance, rfl⟩

theorem configure_headed (h : s.loader.phase = .ready) : Headed s img (s.configure img) := by
  rw [State.configure, State.refreshOrphaned, State.setFaults]
  exact ⟨h, rfl, rfl, rfl, rfl, rfl, rfl, rfl, rfl, rfl⟩

theorem loaded_frame : s.ReadyFrame img (s.loaded img) :=
  (configure_headed (s.setLoader { s.loader with phase := .ready }) img rfl).goOnline

theorem loaded_address : (s.loaded img).address = s.address := by
  rw [State.loaded, goOnline_eq]
  exact (configure_headed (s.setLoader { s.loader with phase := .ready }) img rfl).address

/-- The required set of an entry does not depend on the own signature. -/
theorem loaded_requiredFor (e : SourceEntry) : (s.loaded img).requiredFor e = s.requiredFor e := by
  obtain ⟨_, _, _, _, _, _, _, _, _, _, _, _, _, _, hroster⟩ := loaded_frame s img
  have hstate : ∀ a, ((s.loaded img).rosterAt a).state = (s.rosterAt a).state := fun a => by
    rw [State.rosterAt, hroster, State.rosterAt, look_upd]
    split
    · next h => rw [h]
    · rfl
  unfold State.requiredFor
  simp only [hstate, loaded_address]

theorem loaded_of_tx (h : s.tx = []) : Loaded img (s.loaded img) := by
  obtain ⟨hgens, hcounters, _, _, _, _, htx⟩ := loaded_tables s img
  refine ⟨loaded_source s img, fun g => ?_, fun c => ?_, fun o => ?_, htx.trans h⟩
  · rw [State.gen, hgens, look_ofFn]
  · rw [State.counter, hcounters, look_ofFn]
  · rw [loaded_out]
    rfl
end

end Sys2Proof.Machine
end

section
/-! PROOF. READ_PASS_END with a correct and valid image reaches READY (R181, R183): O7. -/

namespace Sys2Proof.Machine

/-! ## An entry at READY -/

section
variable (img : List Byte) (i : Fin 16) (level : Bool) (required : List Addr)

theorem atReady_readFrom : ((imageSource img i).atReady level required).ReadFrom (fun k => imgByte img (11 + 8 * i.val + k)) := by
  have h := imageSource_readFrom img i
  unfold SourceEntry.atReady
  split
  · exact h
  · split <;> exact h

theorem requiredFor_atReady (s : State) (e : SourceEntry) : s.requiredFor (e.atReady level required) = s.requiredFor e := by
  unfold SourceEntry.atReady
  split
  · rfl
  · split <;> rfl

/-- What the tables of the image do not say of an entry at READY. -/
def SourceEntry.Untouched (e : SourceEntry) : Prop :=
  e.edgeState = .idle ∧ e.pendingCount = 0 ∧ e.nextCount = 0 ∧ e.lastDir = .rise ∧ e.received = [] ∧
    e.reannounces = 0 ∧ e.announced = false ∧ e.predOpen = false ∧ e.dropNoted = false ∧ e.releaseTimer = none ∧ e.repeatTimer = none

theorem atReady_untouched : ((imageSource img i).atReady level required).Untouched := by
  have h : (imageSource img i).Untouched := ⟨rfl, rfl, rfl, rfl, rfl, rfl, rfl, rfl, rfl, rfl, rfl⟩
  unfold SourceEntry.atReady
  split
  · exact h
  · split <;> exact h

/-- The condition, the hold state and the number of an entry at READY (R10, R20, R35). -/
def SourceEntry.RunsAt (e : SourceEntry) (level : Bool) (required : List Addr) : Prop :=
  let started := e.isHold = true ∧ (e.condition = true ∨ (e.mode = .holdLow ∧ ∃ g, e.origin = .generator g))
  (e.condition = true ↔
    e.isHold = true ∧ ((e.mode = .holdHigh ∧ level = true) ∨ (e.mode = .holdLow ∧ level = false))) ∧
    e.holdState = (if e.condition then .announcing else .quiet) ∧ (started → e.inst = 0 ∧ e.required = required) ∧
    (¬started → e.inst = 15 ∧ e.required = [])

theorem opened_runsAt {e : SourceEntry} (h : (e.isHold && e.mode.asserted level) = true) :
    (e.opened required).RunsAt level required := by
  obtain ⟨hhold, hasserted⟩ := Bool.and_eq_true_iff.1 h
  exact ⟨⟨fun _ => ⟨hhold, asserted_iff.1 hasserted⟩, fun _ => rfl⟩, rfl, fun _ => ⟨rfl, rfl⟩,
    fun hn => absurd ⟨hhold, .inl rfl⟩ hn⟩

theorem condition_iff_of_not_asserted {e : SourceEntry} (hc : e.condition = false)
    (h : (e.isHold && e.mode.asserted level) ≠ true) : e.condition = true ↔
      e.isHold = true ∧ ((e.mode = .holdHigh ∧ level = true) ∨ (e.mode = .holdLow ∧ level = false)) := by
  rw [hc]
  refine iff_of_false Bool.false_ne_true fun hcond => h ?_
  exact Bool.and_eq_true_iff.2 ⟨hcond.1, asserted_iff.2 hcond.2⟩

theorem atReady_runsAt : ((imageSource img i).atReady level required).RunsAt level required := by
  have hcond : (imageSource img i).condition = false := rfl
  unfold SourceEntry.atReady
  split
  · next h => exact opened_runsAt level required h
  · next h =>
    have hiff := condition_iff_of_not_asserted level hcond h
    split
    · next hlow =>
      obtain ⟨hhold, hmode, horigin⟩ := hlow
      exact ⟨hiff, rfl, fun _ => ⟨rfl, rfl⟩, fun hn => absurd ⟨hhold, .inr ⟨hmode, horigin⟩⟩ hn⟩
    · next hlow =>
      refine ⟨hiff, rfl, fun hstarted => ?_, fun _ => ⟨rfl, rfl⟩⟩
      obtain ⟨hhold, hstart⟩ := hstarted
      rcases hstart with hc | hgen
      · exact absurd (hcond.symm.trans hc) Bool.false_ne_true
      · exact absurd ⟨hhold, hgen⟩ hlow
end

/-! ## The tables at READY -/

theorem genSide_tables {s t : State} (h : GenSide s t) : t.subs = s.subs ∧ t.profiles = s.profiles ∧
    t.counters = s.counters ∧ t.inputs = s.inputs ∧ t.groups = s.groups := by
  obtain ⟨_, _, _, _, _, _, _, rfl⟩ := h
  exact ⟨rfl, rfl, rfl, rfl, rfl⟩

theorem genSide_frame {s t u : State} {img : List Byte} (h : GenSide t u) (ht : s.ReadyFrame img t) : s.ReadyFrame img u := by
  obtain ⟨_, _, _, _, _, _, _, rfl⟩ := h
  exact ht

/-- The state that a valid image makes of `s`, table by table. -/
structure ReadyState (s : State) (img : List Byte) (u : State) : Prop where
  frame : s.ReadyFrame img u
  tx : u.tx = []
  subs : u.subs = Vector.ofFn (imageSub img)
  profiles : u.profiles = Vector.ofFn (imageProfile img)
  counters : u.counters = Vector.ofFn (imageCounter img)
  inputs : u.inputs = Vector.ofFn (fun n => imageInput img n (look s.pins n))
  groups : u.groups = Vector.ofFn (fun (m : Fin 4) => (imgByte img 9).getLsbD m.val)
  out : ∀ o, u.out o = { imageOut img o false with owner := (u.out o).owner }
  source : ∀ i, u.source i =
    (imageSource img i).atReady (u.readyLevel (imageSource img i).origin) (s.requiredFor (imageSource img i))
  begun : ∀ g, (imageGen img g).autostart = true →
    BegunAt s.time (u.gen g) (imageGen img g) (imageGen img g).active
  idle : ∀ g, (imageGen img g).autostart = false → u.gen g = imageGen img g
  shadowed : ∀ g, (u.gen g).shadowed = true →
    ∃ o x, (u.gen g).target = some o ∧ x ≠ g ∧ (u.out o).owner = some x
  claims : ClaimsFit u

theorem ReadyState.of_freeCount {s u : State} {img : List Byte} (h : ReadyState s img u) (n : Nat) :
    ReadyState s img { u with freeCount := n } :=
  ⟨h.frame, h.tx, h.subs, h.profiles, h.counters, h.inputs, h.groups, h.out, h.source, h.begun, h.idle, h.shadowed, h.claims⟩

theorem readyLevel_autostarted {s : State} {img : List Byte} (h : Loaded img s) (o : Origin) :
    s.autostarted.readyLevel o = s.readyLevel o := by
  have hside := (evaluated_sourcesOnly s).side.trans h.autostarted_spec.keeps.side
  cases o with
  | counter c =>
    have hlevel : ∀ w : State, w.readyLevel (.counter c) = false := fun _ => rfl
    rw [hlevel, hlevel]
  | none =>
    have hlevel : ∀ w : State, w.readyLevel .none = false := fun _ => rfl
    rw [hlevel, hlevel]
  | input n =>
    obtain ⟨_, _, _, hinputs, _⟩ := genSide_tables hside
    have hlevel : ∀ w : State, w.readyLevel (.input n) = (look w.inputs n).filtered := fun _ => rfl
    rw [hlevel, hlevel, hinputs]
  | generator g =>
    have hlevel : ∀ w : State, w.readyLevel (.generator g) = (w.gen g).autostart := fun _ => rfl
    rw [hlevel, hlevel, h.gen]
    cases hg : (imageGen img g).autostart with
    | true =>
      rw [(h.gen_of_autostart hg).kept]
      exact hg
    | false => rw [h.gen_of_not_autostart hg, hg]

theorem loadReady_ready {s : State} {img : List Byte} (hv : validate img = none) (htx : s.tx = []) :
    ReadyState s img (s.loadReady img) := by
  have h := loaded_of_tx s img htx
  have hside := (evaluated_sourcesOnly (s.loaded img)).side.trans h.autostarted_spec.keeps.side
  have hframe := loaded_frame s img
  obtain ⟨_, _, htime, _⟩ := loaded_frame s img
  obtain ⟨_, hcounters, hprofiles, hsubs, hinputs, hgroups, _⟩ := loaded_tables s img
  obtain ⟨hsubs', hprofiles', hcounters', hinputs', hgroups'⟩ := genSide_tables hside
  rw [loadReady_eq]
  refine .of_freeCount ⟨genSide_frame hside hframe, ?_, hsubs'.trans hsubs, hprofiles'.trans hprofiles,
    hcounters'.trans hcounters, hinputs'.trans hinputs, hgroups'.trans hgroups, fun o => ?_, fun i => ?_, fun g hg => ?_,
    fun g hg => h.gen_of_not_autostart hg, fun g hg => h.shadowed_owner hg, h.safe.2⟩ _
  · exact h.autostarted_spec.keeps.tx (by rw [(evaluated_sourcesOnly _).tx_eq, h.tx])
  · rw [← loaded_out s, ← (evaluated_sourcesOnly (s.loaded img)).out o]
    exact h.autostarted_spec.lines.line o
  · rw [h.source_ready hv, readyLevel_autostarted h, loaded_requiredFor]
  · rw [← htime]
    exact h.gen_of_autostart hg

/-! ## The facts of the ready state, table by table -/

section
variable {s u : State} {img : List Byte} (h : ReadyState s img u)
include h

theorem ReadyState.counter_eq (c : Fin 4) : u.counter c = imageCounter img c := by
  rw [State.counter, h.counters, look_ofFn]

theorem ReadyState.input_eq (n : Fin 16) : u.input n = imageInput img n (look s.pins n) := by
  rw [State.input, h.inputs, look_ofFn]

theorem ReadyState.profile_eq (p : Fin 16) : look u.profiles p = imageProfile img p := by
  rw [h.profiles, look_ofFn]

theorem ReadyState.sub_readFrom (k : Fin 32) : (u.sub k).ReadFrom (fun n => imgByte img (139 + 6 * k.val + n)) := by
  rw [State.sub, h.subs, look_ofFn]
  exact imageSub_readFrom img k

theorem ReadyState.profile_readFrom (p : Fin 16) :
    (look u.profiles p).ReadFrom (fun n => imgByte img (331 + 8 * p.val + n)) := by
  rw [h.profile_eq]
  exact imageProfile_readFrom img p

theorem ReadyState.counter_fields (c : Fin 4) : (u.counter c).value = 0 ∧
    (u.counter c).terminal = imgByte img (475 + 3 * c.val + 0) ++ imgByte img (475 + 3 * c.val + 1) ∧
    (u.counter c).stick = (imgByte img (475 + 3 * c.val + 2)).getLsbD 7 := by
  rw [h.counter_eq]
  exact ⟨rfl, rfl, rfl⟩

theorem ReadyState.input_fields (n : Fin 16) : (u.input n).invert = (imgByte img (487 + 1 * n.val + 0)).getLsbD 7 ∧
    (u.input n).filterTime.toNat = (imgByte img (487 + 1 * n.val + 0)).toNat % 128 ∧
    (u.input n).filtered = (look s.pins n != (u.input n).invert) ∧ (u.input n).stability = none := by
  rw [h.input_eq, Nat.one_mul]
  exact ⟨rfl, low_toNat _ 7, rfl, rfl⟩

theorem ReadyState.out_fields (o : Fin 8) : (u.out o).static = (imgByte img (503 + 1 * o.val + 0)).getLsbD 7 ∧
    (u.out o).safe = (imgByte img (503 + 1 * o.val + 0)).getLsbD 6 ∧ (u.out o).forcedSafe = false := by
  rw [h.out, Nat.one_mul]
  exact ⟨rfl, rfl, rfl⟩

theorem ReadyState.source_fields (i : Fin 16) :
    (u.source i).ReadFrom (fun k => imgByte img (11 + 8 * i.val + k)) ∧ (u.source i).Untouched ∧
      (u.source i).RunsAt (u.readyLevel (u.source i).origin) (s.requiredFor (u.source i)) := by
  rw [h.source, atReady_origin, requiredFor_atReady]
  exact ⟨atReady_readFrom img i _ _, atReady_untouched img i _ _, atReady_runsAt img i _ _⟩

/-- What a generator keeps of its image, running or not. -/
theorem ReadyState.gen_kept (g : Fin 8) : u.gen g = { imageGen img g with
    phase := (u.gen g).phase, timer := (u.gen g).timer, remaining := (u.gen g).remaining
    shadowed := (u.gen g).shadowed, pendingTrigger := false } := by
  cases hg : (imageGen img g).autostart with
  | true => exact (h.begun g hg).kept
  | false =>
    rw [h.idle g hg]
    rfl

theorem ReadyState.gen_profile (g : Fin 8) : look u.profiles (u.gen g).initial = (imageGen img g).active := by
  rw [h.profile_eq, h.gen_kept]
  rfl

theorem ReadyState.gen_fields (g : Fin 8) :
    (u.gen g).ReadFrom (fun k => imgByte img (459 + 2 * g.val + k)) ∧ (u.gen g).activeNumber = (u.gen g).initial ∧
      (u.gen g).active = look u.profiles (u.gen g).initial ∧ (u.gen g).pendingProfile = none ∧
      (u.gen g).pendingTrigger = false := by
  have hread : (imageGen img g).ReadFrom (fun k => imgByte img (459 + 2 * g.val + k)) := imageGen_readFrom img g
  rw [h.gen_profile, h.gen_kept]
  exact ⟨hread, rfl, rfl, rfl, rfl⟩

theorem ReadyState.gen_idle (g : Fin 8) (hg : (u.gen g).autostart = false) :
    (u.gen g).phase = .idle ∧ (u.gen g).timer = none ∧ (u.gen g).remaining = .pulses 0 ∧ (u.gen g).shadowed = false := by
  have hauto : (imageGen img g).autostart = false := by
    rw [h.gen_kept] at hg
    exact hg
  rw [h.idle g hauto]
  exact ⟨rfl, rfl, rfl, rfl⟩

theorem ReadyState.gen_begun (g : Fin 8) (hg : (u.gen g).autostart = true) :
    BegunAt s.time (u.gen g) (imageGen img g) (look u.profiles (u.gen g).initial) := by
  have hauto : (imageGen img g).autostart = true := by
    rw [h.gen_kept] at hg
    exact hg
  rw [h.gen_profile]
  exact h.begun g hauto
end

/-- Settles O7, by the state that a valid image makes, table by table. -/
theorem readPassEndReachesReady : Obligations.ReadPassEndReachesReady := by
  intro s body d hp hport hbuf hd hs
  dsimp only
  intro hcrc hv
  have hl : ¬s.loader.phase.Ended := by simp [LoaderPhase.Ended, hp]
  have hready := loadReady_ready (s := (s.setTime (max s.time d)).withBody body.toList) hv (hs.before_end hl).1
  have hexec := exec_readPassEnd hp hport hbuf hd body
  rw [takeBody_of_valid (s := s.setTime (max s.time d)) hcrc hv] at hexec
  refine ⟨_, hexec, ?_⟩
  have himg : ((s.setTime (max s.time d)).loader.buffer ++ body.toList) = s.loader.buffer ++ body.toList := rfl
  rw [himg]
  generalize s.loader.buffer ++ body.toList = img at *
  generalize ((s.setTime (max s.time d)).withBody body.toList).loadReady img = u at *
  obtain ⟨hphase, hsig, htime, hstation, hbus, hstanding, hholdOff, hbeacon, hinterval, hretry, hrelease, hsafe, hcommon,
    hmaint, hroster⟩ := hready.frame
  refine ⟨hphase, hsig, htime, hready.tx, hstation, hbus, hstanding, hholdOff, hbeacon, hinterval, ?_, hrelease, hsafe,
    hcommon, hmaint.trans (imageMaintenance_eq img), fun a => ?_, fun m => ?_, hready.sub_readFrom, hready.profile_readFrom,
    hready.counter_fields, hready.input_fields, hready.out_fields, fun i => ?_, fun g => ?_⟩
  · rw [hretry, retryLimit_eq hv]
  · have hset : u.roster = upd s.roster (addrIdx s.address)
        { look s.roster (addrIdx s.address) with signature := some (imageSignature img) } := hroster
    rw [hset, look_upd]
    by_cases ha : a = addrIdx s.address
    · rw [if_pos ha.symm, if_pos ha, ha]
      rfl
    · rw [if_neg (Ne.symm ha), if_neg ha]
  · rw [hready.groups, look_ofFn]
  · obtain ⟨hread, hrest, hruns⟩ := hready.source_fields i
    obtain ⟨hedge, hpend, hnext, hdir, hrec, hre, hann, hpred, hdrop, hrel, hrep⟩ := hrest
    exact ⟨hread, hedge, hpend, hnext, hdir, hrec, hre, hann, hpred, hdrop, hrel, hrep, hruns⟩
  · obtain ⟨hread, hnum, hact, hprofile, htrig⟩ := hready.gen_fields g
    exact ⟨hread, hnum, hact, hprofile, htrig, hready.gen_idle g, fun hg => ⟨(hready.gen_begun g hg).remaining,
      (hready.gen_begun g hg).delay, (hready.gen_begun g hg).pulse⟩, hready.shadowed g, hready.claims g⟩

end Sys2Proof.Machine
end
